-- ==== Sys2Proof/Word.lean ====
section
/-! DEFINITION. The two fixed sizes of the machine (00_scope.md R4): a data byte has 8 bits, a register
pair, a memory address and a port address have 16. -/

namespace Sys2Proof

/-- A data byte (R4). -/
abbrev Byte := BitVec 8

/-- A register pair, a memory address or a port address (R4). -/
abbrev Word := BitVec 16

end Sys2Proof
end

