-- ==== Sys2Proof/Machine/Bits.lean ====
section
/-! DEFINITION. Byte order, slices and sign extension (00_scope.md R5; 10_state.md R21; 20_memory.md R63). -/

namespace Sys2Proof

/-- `v[15:8]`: the first-named half of a pair (R21). -/
def hi8 (v : Word) : Byte := v.extractLsb' 8 8

/-- `v[7:0]`: the second-named half of a pair (R21). -/
def lo8 (v : Word) : Byte := v.extractLsb' 0 8

/-- `h:l` (R5, R21): the 16-bit value whose high byte is `h`. -/
def join16 (h l : Byte) : Word := h ++ l

/-- `sext_8(v)` (R5): the signed reading of a byte, modulo 65536. -/
def sext8 (v : Byte) : Word := v.signExtend 16

/-- The byte with bit `k` equal to `b` and every other bit 0: the `x << k` of the flag formulas. -/
def bitAt (k : Nat) (b : Bool) : Byte := if b then 1#8 <<< k else 0#8

/-- `1 << b` for a bit number 0..7 (47_rotate_shift_bit.md R312). -/
def bitMask (b : BitVec 3) : Byte := 1#8 <<< b.toNat

end Sys2Proof
end

