-- ==== Sys2Proof/Config.lean ====
section
/-! DEFINITION. The parameters of 00_scope.md R4 with their defaults, and the free value of the port bus.
Each parameter names the decision of 92_eei_decisions.md that records it. -/

namespace Sys2Proof

/-- The instruction classes of 30_encoding.md R103 that can be given a handler. -/
inductive InstrClass where
  | documented
  | undocumented
  | redundantPfx
  deriving DecidableEq, Repr

/-- `IMPL` (R4, R103): which instruction classes have a handler; every other one is a decode fault. -/
structure Impl where
  documented : Bool
  undocumented : Bool
  redundantPfx : Bool
  deriving DecidableEq, Repr

/-- The classes of `IMPL` as a predicate on a class. -/
def Impl.has (m : Impl) : InstrClass → Bool
  | .documented => m.documented
  | .undocumented => m.undocumented
  | .redundantPfx => m.redundantPfx

/-- The values cold start leaves unspecified: the parameter `COLD_UNLISTED` (R4, 10_state.md R37, D14). -/
structure ColdUnlisted where
  ix : Word
  iy : Word
  wz : Word
  bc' : Word
  de' : Word
  hl' : Word
  deriving DecidableEq, Repr

namespace Config

/-- `IMPL`, default (R4; D1, D5, D6): documented and undocumented. -/
def impl : Impl := { documented := true, undocumented := true, redundantPfx := false }

/-- `NMI_VECTOR`, default (R4; D12). -/
def nmiVector : Word := 0x0066#16

/-- `IRQ_VECTOR`, default (R4; D12). -/
def irqVector : Word := 0x0038#16

/-- `IM2_LOW`, default (R4; D13). -/
def im2Low : Byte := 0xFF#8

/-- The values `State.reset` takes for `COLD_UNLISTED`. DESIGN CHOICE, unsafe: the spec says any value;
zero is the model's (log entry 1). No statement rests on it. -/
def coldUnlisted : ColdUnlisted := { ix := 0, iy := 0, wz := 0, bc' := 0, de' := 0, hl' := 0 }

/-- What a byte of memory that is not listed reads as. DESIGN CHOICE, unsafe (log entry 2): the memory
behind the bus is the environment's (20_memory.md R60, D23); zero is D23's value for the spec's vectors. -/
def unlistedByte : Byte := 0x00#8

/-- FREE VALUE: the answer of the environment to a port read for which `State.portIn` holds no answer
(20_memory.md R61, 93 U13; log entry 3). It has no body: nothing is known of any of its values. -/
opaque freePortByte : Nat → Byte

end Config

end Sys2Proof
end

