-- ==== Sys2Proof/Syntax.lean ====
section
/-! DEFINITION. The instructions: one constructor of `Instr` for each row of spec/opcode_table.json, in the
table's order. Operands are typed by the selector tables of 30_encoding.md R94 and R95; immediates and
displacements are the raw bytes (R96, R97). -/

namespace Sys2Proof

/-- `r8[i]` for `i ≠ 6` (R95). Index 6, the memory byte at HL, has constructors of its own. -/
inductive Reg8 where
  | b | c | d | e | h | l | a
  deriving DecidableEq, Repr

/-- `p8[i]` for `i ≠ 6` (R95): `r8` with H and L replaced by the halves of the index register. -/
inductive Reg8X where
  | b | c | d | e | xh | xl | a
  deriving DecidableEq, Repr

/-- The two halves of an index register: `p8[4]` and `p8[5]` (R95). -/
inductive Half where
  | high | low
  deriving DecidableEq, Repr

/-- The index register a DD or FD instruction uses (R92). -/
inductive Idx where
  | ix | iy
  deriving DecidableEq, Repr

/-- `rp[i]` (R95). -/
inductive Rp where
  | bc | de | hl | sp
  deriving DecidableEq, Repr

/-- `rp2[i]` (R95). -/
inductive Rp2 where
  | bc | de | hl | af
  deriving DecidableEq, Repr

/-- `pp[i]` (R101, 46_arith_16bit.md R283): `rp` with HL replaced by the index register. -/
inductive RpX where
  | bc | de | xy | sp
  deriving DecidableEq, Repr

/-- `cc[i]` (R94). -/
inductive Cond where
  | nz | z | nc | c | po | pe | p | m
  deriving DecidableEq, Repr

/-- `cc[i]` for `i < 4`: the conditions of `JR` (R94). -/
inductive CondJr where
  | nz | z | nc | c
  deriving DecidableEq, Repr

/-- `rot[i]` (R94). -/
inductive Rot where
  | rlc | rrc | rl | rr | sla | sra | sll | srl
  deriving DecidableEq, Repr

/-- The bit number of `BIT`, `SET`, `RES`: the field `y` (R96). -/
abbrev BitNo := BitVec 3

/-- One constructor for each row of spec/opcode_table.json. `n`, `nn`, `d`, `e` are the operand bytes and
words; `x` is the index register; a `y`, `z` or `q` is an encoding field that does not change the effect. -/
inductive Instr where
  /-- `NOP`, documented, R265. -/
  | nop
  /-- `EX AF,AF'`, documented, R221. -/
  | exAfAf
  /-- `DJNZ e`, documented, R326. -/
  | djnz (e : Byte)
  /-- `JR e`, documented, R323. -/
  | jr (e : Byte)
  /-- `JR cc,e`, documented, R324. -/
  | jrCc (cc : CondJr) (e : Byte)
  /-- `LD dd,nn`, documented, R200. -/
  | ldDdNn (dd : Rp) (nn : Word)
  /-- `ADD HL,ss`, documented, R280. -/
  | addHlSs (ss : Rp)
  /-- `LD (BC),A`, documented, R187. -/
  | ldAtBcA
  /-- `LD (DE),A`, documented, R188. -/
  | ldAtDeA
  /-- `LD (nn),HL`, documented, R205. -/
  | ldAtNnHl (nn : Word)
  /-- `LD (nn),A`, documented, R189. -/
  | ldAtNnA (nn : Word)
  /-- `LD A,(BC)`, documented, R179. -/
  | ldAAtBc
  /-- `LD A,(DE)`, documented, R180. -/
  | ldAAtDe
  /-- `LD HL,(nn)`, documented, R202. -/
  | ldHlAtNn (nn : Word)
  /-- `LD A,(nn)`, documented, R186. -/
  | ldAAtNn (nn : Word)
  /-- `INC ss`, documented, R284. -/
  | incSs (ss : Rp)
  /-- `DEC ss`, documented, R286. -/
  | decSs (ss : Rp)
  /-- `INC r`, documented, R249. -/
  | incR (r : Reg8)
  /-- `INC (HL)`, documented, R250. -/
  | incAtHl
  /-- `DEC r`, documented, R253. -/
  | decR (r : Reg8)
  /-- `DEC (HL)`, documented, R254. -/
  | decAtHl
  /-- `LD r,n`, documented, R172. -/
  | ldRN (r : Reg8) (n : Byte)
  /-- `LD (HL),n`, documented, R177. -/
  | ldAtHlN (n : Byte)
  /-- `RLCA`, documented, R290. -/
  | rlca
  /-- `RRCA`, documented, R291. -/
  | rrca
  /-- `RLA`, documented, R292. -/
  | rla
  /-- `RRA`, documented, R293. -/
  | rra
  /-- `DAA`, documented, R260. -/
  | daa
  /-- `CPL`, documented, R261. -/
  | cpl
  /-- `SCF`, documented, R264. -/
  | scf
  /-- `CCF`, documented, R263. -/
  | ccf
  /-- `HALT`, documented, R268. -/
  | halt
  /-- `LD r,r'`, documented, R171. -/
  | ldRR (r : Reg8) (r' : Reg8)
  /-- `LD r,(HL)`, documented, R173. -/
  | ldRAtHl (r : Reg8)
  /-- `LD (HL),r`, documented, R175. -/
  | ldAtHlR (r : Reg8)
  /-- `ADD A,r`, documented, R241. -/
  | addAR (r : Reg8)
  /-- `ADD A,(HL)`, documented, R241. -/
  | addAAtHl
  /-- `ADD A,n`, documented, R241. -/
  | addAN (n : Byte)
  /-- `ADC A,r`, documented, R242. -/
  | adcAR (r : Reg8)
  /-- `ADC A,(HL)`, documented, R242. -/
  | adcAAtHl
  /-- `ADC A,n`, documented, R242. -/
  | adcAN (n : Byte)
  /-- `SUB r`, documented, R243. -/
  | subR (r : Reg8)
  /-- `SUB (HL)`, documented, R243. -/
  | subAtHl
  /-- `SUB n`, documented, R243. -/
  | subN (n : Byte)
  /-- `SBC A,r`, documented, R244. -/
  | sbcAR (r : Reg8)
  /-- `SBC A,(HL)`, documented, R244. -/
  | sbcAAtHl
  /-- `SBC A,n`, documented, R244. -/
  | sbcAN (n : Byte)
  /-- `AND r`, documented, R245. -/
  | andR (r : Reg8)
  /-- `AND (HL)`, documented, R245. -/
  | andAtHl
  /-- `AND n`, documented, R245. -/
  | andN (n : Byte)
  /-- `XOR r`, documented, R246. -/
  | xorR (r : Reg8)
  /-- `XOR (HL)`, documented, R246. -/
  | xorAtHl
  /-- `XOR n`, documented, R246. -/
  | xorN (n : Byte)
  /-- `OR r`, documented, R247. -/
  | orR (r : Reg8)
  /-- `OR (HL)`, documented, R247. -/
  | orAtHl
  /-- `OR n`, documented, R247. -/
  | orN (n : Byte)
  /-- `CP r`, documented, R248. -/
  | cpR (r : Reg8)
  /-- `CP (HL)`, documented, R248. -/
  | cpAtHl
  /-- `CP n`, documented, R248. -/
  | cpN (n : Byte)
  /-- `RET cc`, documented, R330. -/
  | retCc (cc : Cond)
  /-- `POP qq`, documented, R212. -/
  | popQq (qq : Rp2)
  /-- `RET`, documented, R329. -/
  | ret
  /-- `EXX`, documented, R222. -/
  | exx
  /-- `JP (HL)`, documented, R322. -/
  | jpHl
  /-- `LD SP,HL`, documented, R208. -/
  | ldSpHl
  /-- `JP cc,nn`, documented, R321. -/
  | jpCcNn (cc : Cond) (nn : Word)
  /-- `JP nn`, documented, R320. -/
  | jpNn (nn : Word)
  /-- `OUT (n),A`, documented, R344. -/
  | outNA (n : Byte)
  /-- `IN A,(n)`, documented, R341. -/
  | inAN (n : Byte)
  /-- `EX (SP),HL`, documented, R223. -/
  | exAtSpHl
  /-- `EX DE,HL`, documented, R220. -/
  | exDeHl
  /-- `DI`, documented, R270. -/
  | di
  /-- `EI`, documented, R271. -/
  | ei
  /-- `CALL cc,nn`, documented, R328. -/
  | callCcNn (cc : Cond) (nn : Word)
  /-- `PUSH qq`, documented, R210. -/
  | pushQq (qq : Rp2)
  /-- `CALL nn`, documented, R327. -/
  | callNn (nn : Word)
  /-- `RST p`, documented, R335. -/
  | rstP (t : BitVec 3)
  /-- `RLC r`, documented, R295. -/
  | rlcR (r : Reg8)
  /-- `RLC (HL)`, documented, R295. -/
  | rlcAtHl
  /-- `RRC r`, documented, R296. -/
  | rrcR (r : Reg8)
  /-- `RRC (HL)`, documented, R296. -/
  | rrcAtHl
  /-- `RL r`, documented, R297. -/
  | rlR (r : Reg8)
  /-- `RL (HL)`, documented, R297. -/
  | rlAtHl
  /-- `RR r`, documented, R298. -/
  | rrR (r : Reg8)
  /-- `RR (HL)`, documented, R298. -/
  | rrAtHl
  /-- `SLA r`, documented, R299. -/
  | slaR (r : Reg8)
  /-- `SLA (HL)`, documented, R299. -/
  | slaAtHl
  /-- `SRA r`, documented, R300. -/
  | sraR (r : Reg8)
  /-- `SRA (HL)`, documented, R300. -/
  | sraAtHl
  /-- `SLL r`, undocumented, R301. -/
  | sllR (r : Reg8)
  /-- `SLL (HL)`, undocumented, R301. -/
  | sllAtHl
  /-- `SRL r`, documented, R302. -/
  | srlR (r : Reg8)
  /-- `SRL (HL)`, documented, R302. -/
  | srlAtHl
  /-- `BIT b,r`, documented, R310. -/
  | bitBR (b : BitNo) (r : Reg8)
  /-- `BIT b,(HL)`, documented, R310. -/
  | bitBAtHl (b : BitNo)
  /-- `RES b,r`, documented, R314. -/
  | resBR (b : BitNo) (r : Reg8)
  /-- `RES b,(HL)`, documented, R314. -/
  | resBAtHl (b : BitNo)
  /-- `SET b,r`, documented, R312. -/
  | setBR (b : BitNo) (r : Reg8)
  /-- `SET b,(HL)`, documented, R312. -/
  | setBAtHl (b : BitNo)
  /-- `IN r,(C)`, documented, R342. -/
  | inRC (r : Reg8)
  /-- `IN F,(C)`, undocumented, R343. -/
  | inFC
  /-- `OUT (C),r`, documented, R345. -/
  | outCR (r : Reg8)
  /-- `OUT (C),0`, undocumented, R346. -/
  | outC0
  /-- `SBC HL,ss`, documented, R282. -/
  | sbcHlSs (ss : Rp)
  /-- `ADC HL,ss`, documented, R281. -/
  | adcHlSs (ss : Rp)
  /-- `LD (nn),dd`, documented, R206. -/
  | ldAtNnDd (nn : Word) (dd : Rp)
  /-- `LD dd,(nn)`, documented, R203. -/
  | ldDdAtNn (dd : Rp) (nn : Word)
  /-- `NEG`, documented, R262. -/
  | neg
  /-- `NEG`, undocumented, R262. -/
  | negY (y : BitVec 3)
  /-- `RETN`, documented, R333. -/
  | retn
  /-- `RETI`, documented, R334. -/
  | reti
  /-- `RETN`, undocumented, R333. -/
  | retnY (y : BitVec 3)
  /-- `IM 0`, documented, R272. -/
  | im0
  /-- `IM 1`, documented, R272. -/
  | im1
  /-- `IM 2`, documented, R272. -/
  | im2
  /-- `IM im[y]`, undocumented, R272. -/
  | imY (y : BitVec 3)
  /-- `LD I,A`, documented, R183. -/
  | ldIA
  /-- `LD R,A`, documented, R184. -/
  | ldRA
  /-- `LD A,I`, documented, R181. -/
  | ldAI
  /-- `LD A,R`, documented, R182. -/
  | ldAR
  /-- `RRD`, documented, R306. -/
  | rrd
  /-- `RLD`, documented, R305. -/
  | rld
  /-- `NOP`, undocumented, R266. -/
  | nopEd (q : BitVec 1)
  /-- `LDI`, documented, R225. -/
  | ldi
  /-- `LDD`, documented, R227. -/
  | ldd
  /-- `LDIR`, documented, R226. -/
  | ldir
  /-- `LDDR`, documented, R228. -/
  | lddr
  /-- `CPI`, documented, R229. -/
  | cpi
  /-- `CPD`, documented, R231. -/
  | cpd
  /-- `CPIR`, documented, R230. -/
  | cpir
  /-- `CPDR`, documented, R232. -/
  | cpdr
  /-- `INI`, documented, R348. -/
  | ini
  /-- `IND`, documented, R350. -/
  | ind
  /-- `INIR`, documented, R349. -/
  | inir
  /-- `INDR`, documented, R351. -/
  | indr
  /-- `OUTI`, documented, R352. -/
  | outi
  /-- `OUTD`, documented, R354. -/
  | outd
  /-- `OTIR`, documented, R353. -/
  | otir
  /-- `OTDR`, documented, R355. -/
  | otdr
  /-- `ADD XY,pp`, documented, R283. -/
  | addXyPp (x : Idx) (pp : RpX)
  /-- `LD XY,nn`, documented, R201. -/
  | ldXyNn (x : Idx) (nn : Word)
  /-- `LD (nn),XY`, documented, R207. -/
  | ldAtNnXy (nn : Word) (x : Idx)
  /-- `INC XY`, documented, R285. -/
  | incXy (x : Idx)
  /-- `DEC XY`, documented, R287. -/
  | decXy (x : Idx)
  /-- `LD XY,(nn)`, documented, R204. -/
  | ldXyAtNn (x : Idx) (nn : Word)
  /-- `INC XYH`, undocumented, R256. -/
  | incXyh (x : Idx)
  /-- `DEC XYH`, undocumented, R256. -/
  | decXyh (x : Idx)
  /-- `INC XYL`, undocumented, R256. -/
  | incXyl (x : Idx)
  /-- `DEC XYL`, undocumented, R256. -/
  | decXyl (x : Idx)
  /-- `LD XYH,n`, undocumented, R190. -/
  | ldXyhN (x : Idx) (n : Byte)
  /-- `LD XYL,n`, undocumented, R190. -/
  | ldXylN (x : Idx) (n : Byte)
  /-- `INC (XY+d)`, documented, R252. -/
  | incAtXyd (x : Idx) (d : Byte)
  /-- `DEC (XY+d)`, documented, R255. -/
  | decAtXyd (x : Idx) (d : Byte)
  /-- `LD (XY+d),n`, documented, R178. -/
  | ldAtXydN (x : Idx) (d : Byte) (n : Byte)
  /-- `LD r,(XY+d)`, documented, R174. -/
  | ldRAtXyd (r : Reg8) (x : Idx) (d : Byte)
  /-- `LD (XY+d),r`, documented, R176. -/
  | ldAtXydR (x : Idx) (d : Byte) (r : Reg8)
  /-- `LD p,p'`, undocumented, R185. -/
  | ldHalfP (x : Idx) (hf : Half) (p : Reg8X)
  /-- `LD p,p'`, undocumented, R185. -/
  | ldPHalf (x : Idx) (p : Reg8X) (hf : Half)
  /-- `ADD A,(XY+d)`, documented, R241. -/
  | addAAtXyd (x : Idx) (d : Byte)
  /-- `ADD A,p`, undocumented, R251. -/
  | addAHalf (x : Idx) (hf : Half)
  /-- `ADC A,(XY+d)`, documented, R242. -/
  | adcAAtXyd (x : Idx) (d : Byte)
  /-- `ADC A,p`, undocumented, R251. -/
  | adcAHalf (x : Idx) (hf : Half)
  /-- `SUB (XY+d)`, documented, R243. -/
  | subAtXyd (x : Idx) (d : Byte)
  /-- `SUB p`, undocumented, R251. -/
  | subHalf (x : Idx) (hf : Half)
  /-- `SBC A,(XY+d)`, documented, R244. -/
  | sbcAAtXyd (x : Idx) (d : Byte)
  /-- `SBC A,p`, undocumented, R251. -/
  | sbcAHalf (x : Idx) (hf : Half)
  /-- `AND (XY+d)`, documented, R245. -/
  | andAtXyd (x : Idx) (d : Byte)
  /-- `AND p`, undocumented, R251. -/
  | andHalf (x : Idx) (hf : Half)
  /-- `XOR (XY+d)`, documented, R246. -/
  | xorAtXyd (x : Idx) (d : Byte)
  /-- `XOR p`, undocumented, R251. -/
  | xorHalf (x : Idx) (hf : Half)
  /-- `OR (XY+d)`, documented, R247. -/
  | orAtXyd (x : Idx) (d : Byte)
  /-- `OR p`, undocumented, R251. -/
  | orHalf (x : Idx) (hf : Half)
  /-- `CP (XY+d)`, documented, R248. -/
  | cpAtXyd (x : Idx) (d : Byte)
  /-- `CP p`, undocumented, R251. -/
  | cpHalf (x : Idx) (hf : Half)
  /-- `POP XY`, documented, R213. -/
  | popXy (x : Idx)
  /-- `EX (SP),XY`, documented, R224. -/
  | exAtSpXy (x : Idx)
  /-- `PUSH XY`, documented, R211. -/
  | pushXy (x : Idx)
  /-- `JP (XY)`, documented, R325. -/
  | jpXy (x : Idx)
  /-- `LD SP,XY`, documented, R209. -/
  | ldSpXy (x : Idx)
  /-- `RLC (XY+d)`, documented, R295. -/
  | rlcAtXyd (x : Idx) (d : Byte)
  /-- `RLC (XY+d),r`, undocumented, R295. -/
  | rlcAtXydR (x : Idx) (d : Byte) (r : Reg8)
  /-- `RRC (XY+d)`, documented, R296. -/
  | rrcAtXyd (x : Idx) (d : Byte)
  /-- `RRC (XY+d),r`, undocumented, R296. -/
  | rrcAtXydR (x : Idx) (d : Byte) (r : Reg8)
  /-- `RL (XY+d)`, documented, R297. -/
  | rlAtXyd (x : Idx) (d : Byte)
  /-- `RL (XY+d),r`, undocumented, R297. -/
  | rlAtXydR (x : Idx) (d : Byte) (r : Reg8)
  /-- `RR (XY+d)`, documented, R298. -/
  | rrAtXyd (x : Idx) (d : Byte)
  /-- `RR (XY+d),r`, undocumented, R298. -/
  | rrAtXydR (x : Idx) (d : Byte) (r : Reg8)
  /-- `SLA (XY+d)`, documented, R299. -/
  | slaAtXyd (x : Idx) (d : Byte)
  /-- `SLA (XY+d),r`, undocumented, R299. -/
  | slaAtXydR (x : Idx) (d : Byte) (r : Reg8)
  /-- `SRA (XY+d)`, documented, R300. -/
  | sraAtXyd (x : Idx) (d : Byte)
  /-- `SRA (XY+d),r`, undocumented, R300. -/
  | sraAtXydR (x : Idx) (d : Byte) (r : Reg8)
  /-- `SLL (XY+d)`, undocumented, R301. -/
  | sllAtXyd (x : Idx) (d : Byte)
  /-- `SLL (XY+d),r`, undocumented, R301. -/
  | sllAtXydR (x : Idx) (d : Byte) (r : Reg8)
  /-- `SRL (XY+d)`, documented, R302. -/
  | srlAtXyd (x : Idx) (d : Byte)
  /-- `SRL (XY+d),r`, undocumented, R302. -/
  | srlAtXydR (x : Idx) (d : Byte) (r : Reg8)
  /-- `BIT b,(XY+d)`, documented, R311. -/
  | bitBAtXyd (b : BitNo) (x : Idx) (d : Byte)
  /-- `BIT b,(XY+d)`, undocumented, R311. -/
  | bitBAtXydZ (b : BitNo) (x : Idx) (d : Byte) (z : BitVec 3)
  /-- `RES b,(XY+d)`, documented, R313. -/
  | resBAtXyd (b : BitNo) (x : Idx) (d : Byte)
  /-- `RES b,(XY+d),r`, undocumented, R313. -/
  | resBAtXydR (b : BitNo) (x : Idx) (d : Byte) (r : Reg8)
  /-- `SET b,(XY+d)`, documented, R313. -/
  | setBAtXyd (b : BitNo) (x : Idx) (d : Byte)
  /-- `SET b,(XY+d),r`, undocumented, R313. -/
  | setBAtXydR (b : BitNo) (x : Idx) (d : Byte) (r : Reg8)
  deriving DecidableEq, Repr

end Sys2Proof
end

