-- ==== Sys2Proof/Machine/Flags.lean ====
section
/-! DEFINITION. The flag tables and the ALU primitives of 40_alu_flag_tables.md, and the flag formulas the
instruction rules of files 41 to 49 write out. Every primitive gives a complete new flag byte. -/

namespace Sys2Proof.Machine

/-! ## The bits of F (10_state.md R25) -/

def flagS (f : Byte) : Bool := f.getLsbD 7
def flagZ (f : Byte) : Bool := f.getLsbD 6
def flagY (f : Byte) : Bool := f.getLsbD 5
def flagH (f : Byte) : Bool := f.getLsbD 4
def flagX (f : Byte) : Bool := f.getLsbD 3
def flagP (f : Byte) : Bool := f.getLsbD 2
def flagN (f : Byte) : Bool := f.getLsbD 1
def flagC (f : Byte) : Bool := f.getLsbD 0

/-! ## The tables (R130 to R135) -/

/-- `SZ53[v]` (R131). -/
def sz53 (v : Byte) : Byte := (v &&& 0xA8#8) ||| bitAt 6 (v == 0#8)

/-- `PARITY[v]` (R132): an even number of set bits. -/
def parity (v : Byte) : Bool :=
  !(v.getLsbD 7 ^^ v.getLsbD 6 ^^ v.getLsbD 5 ^^ v.getLsbD 4 ^^
    v.getLsbD 3 ^^ v.getLsbD 2 ^^ v.getLsbD 1 ^^ v.getLsbD 0)

/-- `SZ53P[v]` (R133). -/
def sz53p (v : Byte) : Byte := sz53 v ||| bitAt 2 (parity v)

/-- The table index built from bit `k` of both operands and the result, the first operand in bit 0 (R134,
R135): `hidx` for `k = 3`, `vidx` for 7, `hidx16` for 11, `vidx16` for 15. -/
def tableIdx {w : Nat} (k : Nat) (a b r : BitVec w) : Nat :=
  (a.getLsbD k).toNat + 2 * (b.getLsbD k).toNat + 4 * (r.getLsbD k).toNat

/-- `HC_ADD` (R134). -/
def hcAdd : Nat → Bool
  | 0 => false
  | 1 => true
  | 2 => true
  | 3 => true
  | 4 => false
  | 5 => false
  | 6 => false
  | _ => true

/-- `HC_SUB` (R134). -/
def hcSub : Nat → Bool
  | 0 => false
  | 1 => false
  | 2 => true
  | 3 => false
  | 4 => true
  | 5 => false
  | 6 => true
  | _ => true

/-- `OV_ADD` (R135). -/
def ovAdd : Nat → Bool
  | 0 => false
  | 1 => false
  | 2 => false
  | 3 => true
  | 4 => true
  | 5 => false
  | 6 => false
  | _ => false

/-- `OV_SUB` (R135). -/
def ovSub : Nat → Bool
  | 0 => false
  | 1 => true
  | 2 => false
  | 3 => false
  | 4 => false
  | 5 => false
  | 6 => true
  | _ => false

/-! ## 8-bit primitives (R136 to R146) -/

/-- `ADD8(a, b, cin)` (R136). -/
def add8 (a b : Byte) (cin : Bool) : Byte × Byte :=
  let t := a.toNat + b.toNat + cin.toNat
  let r : Byte := BitVec.ofNat 8 t
  (r, sz53 r ||| bitAt 4 (hcAdd (tableIdx 3 a b r)) ||| bitAt 2 (ovAdd (tableIdx 7 a b r)) |||
    bitAt 0 (decide (256 ≤ t)))

/-- `SUB8(a, b, cin)` (R137): `t < 0` is the borrow. -/
def sub8 (a b : Byte) (cin : Bool) : Byte × Byte :=
  let r : Byte := a - b - BitVec.ofNat 8 cin.toNat
  (r, sz53 r ||| bitAt 4 (hcSub (tableIdx 3 a b r)) ||| bitAt 2 (ovSub (tableIdx 7 a b r)) ||| 0x02#8 |||
    bitAt 0 (decide (a.toNat < b.toNat + cin.toNat)))

/-- `CP8(a, b)` (R138): bits 5 and 3 from the operand. -/
def cp8 (a b : Byte) : Byte := ((sub8 a b false).2 &&& ~~~0x28#8) ||| (b &&& 0x28#8)

/-- `AND8(a, b)` (R139). -/
def and8 (a b : Byte) : Byte × Byte := (a &&& b, sz53p (a &&& b) ||| 0x10#8)

/-- `XOR8(a, b)` (R139). -/
def xor8 (a b : Byte) : Byte × Byte := (a ^^^ b, sz53p (a ^^^ b))

/-- `OR8(a, b)` (R139). -/
def or8 (a b : Byte) : Byte × Byte := (a ||| b, sz53p (a ||| b))

/-- `INC8(v, fold)` (R140). -/
def inc8 (v fold : Byte) : Byte × Byte :=
  let r := v + 1#8
  (r, (fold &&& 0x01#8) ||| sz53 r ||| bitAt 4 (r &&& 0x0F#8 == 0x00#8) ||| bitAt 2 (r == 0x80#8))

/-- `DEC8(v, fold)` (R140). -/
def dec8 (v fold : Byte) : Byte × Byte :=
  let r := v - 1#8
  (r, (fold &&& 0x01#8) ||| sz53 r ||| bitAt 4 (r &&& 0x0F#8 == 0x0F#8) ||| bitAt 2 (r == 0x7F#8) |||
    0x02#8)

/-- `ROT8(k, v, cin)` (R144): the result and the bit shifted out. -/
def rot8 (k : Rot) (v : Byte) (cin : Bool) : Byte × Bool :=
  match k with
  | .rlc => ((v <<< 1) ||| bitAt 0 (v.getLsbD 7), v.getLsbD 7)
  | .rrc => ((v >>> 1) ||| bitAt 7 (v.getLsbD 0), v.getLsbD 0)
  | .rl => ((v <<< 1) ||| bitAt 0 cin, v.getLsbD 7)
  | .rr => ((v >>> 1) ||| bitAt 7 cin, v.getLsbD 0)
  | .sla => (v <<< 1, v.getLsbD 7)
  | .sra => ((v >>> 1) ||| (v &&& 0x80#8), v.getLsbD 0)
  | .sll => ((v <<< 1) ||| 0x01#8, v.getLsbD 7)
  | .srl => (v >>> 1, v.getLsbD 0)

/-- The flag byte of the CB-table rotates and shifts (R144): `SZ53P[r] | c`. -/
def rotF (r : Byte) (c : Bool) : Byte := sz53p r ||| bitAt 0 c

/-- The flag byte of the accumulator rotates (47_rotate_shift_bit.md R290 to R293). -/
def rotAF (r : Byte) (c : Bool) (fold : Byte) : Byte := (fold &&& 0xC4#8) ||| (r &&& 0x28#8) ||| bitAt 0 c

/-- `BITF(b, v, yx, fold)` (R146). -/
def bitF (b : BitVec 3) (v yx fold : Byte) : Byte :=
  let on := v.getLsbD b.toNat
  (fold &&& 0x01#8) ||| 0x10#8 ||| (yx &&& 0x28#8) ||| (if on then 0x00#8 else 0x44#8) |||
    bitAt 7 (b == 7#3 && on)

/-! ## 16-bit primitives (R141 to R143) -/

/-- `ADD16(a, b, fold)` (R141). -/
def add16 (a b : Word) (fold : Byte) : Word × Byte :=
  let t := a.toNat + b.toNat
  let r : Word := BitVec.ofNat 16 t
  (r, (fold &&& 0xC4#8) ||| (hi8 r &&& 0x28#8) ||| bitAt 4 (hcAdd (tableIdx 11 a b r)) |||
    bitAt 0 (decide (65536 ≤ t)))

/-- `ADC16(a, b, cin)` (R142). -/
def adc16 (a b : Word) (cin : Bool) : Word × Byte :=
  let t := a.toNat + b.toNat + cin.toNat
  let r : Word := BitVec.ofNat 16 t
  (r, (hi8 r &&& 0xA8#8) ||| bitAt 6 (r == 0#16) ||| bitAt 4 (hcAdd (tableIdx 11 a b r)) |||
    bitAt 2 (ovAdd (tableIdx 15 a b r)) ||| bitAt 0 (decide (65536 ≤ t)))

/-- `SBC16(a, b, cin)` (R143): `t < 0` is the borrow. -/
def sbc16 (a b : Word) (cin : Bool) : Word × Byte :=
  let r : Word := a - b - BitVec.ofNat 16 cin.toNat
  (r, (hi8 r &&& 0xA8#8) ||| bitAt 6 (r == 0#16) ||| bitAt 4 (hcSub (tableIdx 11 a b r)) |||
    bitAt 2 (ovSub (tableIdx 15 a b r)) ||| 0x02#8 ||| bitAt 0 (decide (a.toNat < b.toNat + cin.toNat)))

/-! ## Flag formulas written out in the instruction rules -/

/-- `DAA` (45_general_control.md R260): the new accumulator and flag byte. -/
def daa8 (a fold : Byte) : Byte × Byte :=
  let low := flagH fold || decide (9 < (a &&& 0x0F#8).toNat)
  let high := flagC fold || decide (0x99 < a.toNat)
  let corr : Byte := (if low then 0x06#8 else 0x00#8) ||| (if high then 0x60#8 else 0x00#8)
  let (r, f) := if flagN fold then sub8 a corr false else add8 a corr false
  (r, (f &&& 0xFA#8) ||| bitAt 2 (parity r) ||| bitAt 0 high)

/-- `CPL` (R261), for the new accumulator. -/
def cplF (a fold : Byte) : Byte := (fold &&& 0xC5#8) ||| 0x12#8 ||| (a &&& 0x28#8)

/-- `CCF` (R263). -/
def ccfF (a fold : Byte) : Byte :=
  (fold &&& 0xC4#8) ||| bitAt 4 (flagC fold) ||| (a &&& 0x28#8) ||| bitAt 0 (!flagC fold)

/-- `SCF` (R264). -/
def scfF (a fold : Byte) : Byte := (fold &&& 0xC4#8) ||| (a &&& 0x28#8) ||| 0x01#8

/-- `LD A,I` and `LD A,R` (41_load_8bit.md R181, R182), for the value loaded. -/
def ldAirF (v fold : Byte) (iff2 : Bool) : Byte := (fold &&& 0x01#8) ||| sz53 v ||| bitAt 2 iff2

/-- `RLD`, `RRD` (47_rotate_shift_bit.md R305, R306) and `IN r,(C)`, `IN F,(C)` (49_input_output.md R342,
R343): `(F & 0x01) | SZ53P[v]`. -/
def szpKeepC (v fold : Byte) : Byte := (fold &&& 0x01#8) ||| sz53p v

/-- Bits 5 and 3 of the block instructions: `n[3]` in bit 3, `n[1]` in bit 5 (43_exchange_block.md R225). -/
def blockYX (n : Byte) : Byte := (n &&& 0x08#8) ||| ((n &&& 0x02#8) <<< 4)

/-- The flags of `LDI` and its kin (R225): `t` the byte moved, `more` the test `BC != 0`. -/
def ldBlockF (a t fold : Byte) (more : Bool) : Byte :=
  (fold &&& 0xC1#8) ||| bitAt 2 more ||| blockYX (t + a)

/-- The borrow from bit 4 of `CPI` and its kin (R229). -/
def cpBlockH (a t : Byte) : Bool := hcSub (tableIdx 3 a t (a - t))

/-- The flags of `CPI` and its kin (R229): `t` the byte compared, `more` the test `BC != 0`. -/
def cpBlockF (a t fold : Byte) (more : Bool) : Byte :=
  let r := a - t
  let hf := cpBlockH a t
  (fold &&& 0x01#8) ||| 0x02#8 ||| bitAt 4 hf ||| bitAt 2 more ||| (r &&& 0x80#8) ||| bitAt 6 (r == 0#8) |||
    blockYX (r - BitVec.ofNat 8 hf.toNat)

/-- `IOBLKF(t, k, b)` (49_input_output.md R347). -/
def ioBlockF (t : Byte) (k : Nat) (b : Byte) : Byte :=
  sz53 b ||| bitAt 1 (t.getLsbD 7) ||| (if 0xFF < k then 0x11#8 else 0x00#8) |||
    bitAt 2 (parity (BitVec.ofNat 8 (k % 8) ^^^ b))

end Sys2Proof.Machine
end

