-- ==== Sys2Proof/WellFormed.lean ====
section
/-! DEFINITION. Which instruction terms a row of the opcode table admits: the rows' `in` and `not` lists
that the operand types do not already enforce (30_encoding.md R100 to R102, R108). -/

namespace Sys2Proof

/-- The checks of R108's `in` and `not` lists: the undocumented encodings of `NEG`, `RETN`, `IM` and
`BIT b,(XY+d)` exclude the documented ones, and the second `LD p,p'` row has no half as destination. -/
def Instr.wellFormed : Instr → Bool
  | .negY y => y != 0#3
  | .retnY y => y != 0#3 && y != 1#3
  | .imY y => y != 0#3 && y != 2#3 && y != 3#3
  | .ldPHalf _ p _ => p != .xh && p != .xl
  | .bitBAtXydZ _ _ _ z => z != 6#3
  | .nop | .exAfAf | .djnz _ | .jr _ | .jrCc _ _ | .ldDdNn _ _ | .addHlSs _ | .ldAtBcA | .ldAtDeA |
    .ldAtNnHl _ | .ldAtNnA _ | .ldAAtBc | .ldAAtDe | .ldHlAtNn _ | .ldAAtNn _ | .incSs _ | .decSs _ | .incR
    _ | .incAtHl | .decR _ | .decAtHl | .ldRN _ _ | .ldAtHlN _ | .rlca | .rrca | .rla | .rra | .daa | .cpl |
    .scf | .ccf | .halt | .ldRR _ _ | .ldRAtHl _ | .ldAtHlR _ | .addAR _ | .addAAtHl | .addAN _ | .adcAR _ |
    .adcAAtHl | .adcAN _ | .subR _ | .subAtHl | .subN _ | .sbcAR _ | .sbcAAtHl | .sbcAN _ | .andR _ |
    .andAtHl | .andN _ | .xorR _ | .xorAtHl | .xorN _ | .orR _ | .orAtHl | .orN _ | .cpR _ | .cpAtHl | .cpN
    _ | .retCc _ | .popQq _ | .ret | .exx | .jpHl | .ldSpHl | .jpCcNn _ _ | .jpNn _ | .outNA _ | .inAN _ |
    .exAtSpHl | .exDeHl | .di | .ei | .callCcNn _ _ | .pushQq _ | .callNn _ | .rstP _ | .rlcR _ | .rlcAtHl |
    .rrcR _ | .rrcAtHl | .rlR _ | .rlAtHl | .rrR _ | .rrAtHl | .slaR _ | .slaAtHl | .sraR _ | .sraAtHl |
    .sllR _ | .sllAtHl | .srlR _ | .srlAtHl | .bitBR _ _ | .bitBAtHl _ | .resBR _ _ | .resBAtHl _ | .setBR _
    _ | .setBAtHl _ | .inRC _ | .inFC | .outCR _ | .outC0 | .sbcHlSs _ | .adcHlSs _ | .ldAtNnDd _ _ |
    .ldDdAtNn _ _ | .neg | .retn | .reti | .im0 | .im1 | .im2 | .ldIA | .ldRA | .ldAI | .ldAR | .rrd | .rld
    | .nopEd _ | .ldi | .ldd | .ldir | .lddr | .cpi | .cpd | .cpir | .cpdr | .ini | .ind | .inir | .indr |
    .outi | .outd | .otir | .otdr | .addXyPp _ _ | .ldXyNn _ _ | .ldAtNnXy _ _ | .incXy _ | .decXy _ |
    .ldXyAtNn _ _ | .incXyh _ | .decXyh _ | .incXyl _ | .decXyl _ | .ldXyhN _ _ | .ldXylN _ _ | .incAtXyd _
    _ | .decAtXyd _ _ | .ldAtXydN _ _ _ | .ldRAtXyd _ _ _ | .ldAtXydR _ _ _ | .ldHalfP _ _ _ | .addAAtXyd _
    _ | .addAHalf _ _ | .adcAAtXyd _ _ | .adcAHalf _ _ | .subAtXyd _ _ | .subHalf _ _ | .sbcAAtXyd _ _ |
    .sbcAHalf _ _ | .andAtXyd _ _ | .andHalf _ _ | .xorAtXyd _ _ | .xorHalf _ _ | .orAtXyd _ _ | .orHalf _ _
    | .cpAtXyd _ _ | .cpHalf _ _ | .popXy _ | .exAtSpXy _ | .pushXy _ | .jpXy _ | .ldSpXy _ | .rlcAtXyd _ _
    | .rlcAtXydR _ _ _ | .rrcAtXyd _ _ | .rrcAtXydR _ _ _ | .rlAtXyd _ _ | .rlAtXydR _ _ _ | .rrAtXyd _ _ |
    .rrAtXydR _ _ _ | .slaAtXyd _ _ | .slaAtXydR _ _ _ | .sraAtXyd _ _ | .sraAtXydR _ _ _ | .sllAtXyd _ _ |
    .sllAtXydR _ _ _ | .srlAtXyd _ _ | .srlAtXydR _ _ _ | .bitBAtXyd _ _ _ | .resBAtXyd _ _ _ | .resBAtXydR
    _ _ _ _ | .setBAtXyd _ _ _ | .setBAtXydR _ _ _ _ =>
    true

end Sys2Proof
end

