-- ==== Sys2Proof/Decode.lean ====
section
/-! DEFINITION. From bytes to instructions and back (30_encoding.md). `decodeWith` follows the dispatcher's
table selection (R92, R98 to R105) on the four bytes at PC and rejects by name; `encode`, after it, is
written from the same tables. Which bytes are fetched, charged and counted is Machine/Ops.lean's. -/

namespace Sys2Proof

/-- The bytes at PC, PC+1, PC+2, PC+3: an instruction has at most four (R90). -/
structure Window where
  b0 : Byte
  b1 : Byte
  b2 : Byte
  b3 : Byte
  deriving DecidableEq, Repr

/-- Byte `n` of a list, zero past its end. -/
def byteAt : List Byte → Nat → Byte
  | [], _ => 0x00#8
  | b :: _, 0 => b
  | _ :: l, n + 1 => byteAt l n

/-- The first four bytes of a list, zero where it is shorter. -/
def Window.ofList (l : List Byte) : Window :=
  { b0 := byteAt l 0, b1 := byteAt l 1, b2 := byteAt l 2, b3 := byteAt l 3 }

/-- Why a byte sequence has no handler (R103 to R105). Each carries the prefix and opcode bytes that a
decode fault reports (60_exceptions.md R400, D19). -/
inductive DecodeError where
  /-- A byte of the ED table with no entry (R100, R104). -/
  | edHole (bytes : List Byte)
  /-- A DD or FD byte followed by DD, ED or FD (R105). -/
  | secondPfx (bytes : List Byte)
  /-- A DD or FD byte before a byte without an index form, that class not being in `IMPL` (R105). -/
  | redundantPfx (bytes : List Byte)
  /-- An entry whose class is not in `IMPL` (R103). -/
  | classOff (bytes : List Byte)
  deriving DecidableEq, Repr

/-- The bytes a decode fault reports. -/
def DecodeError.bytes : DecodeError → List Byte
  | .edHole bs => bs
  | .secondPfx bs => bs
  | .redundantPfx bs => bs
  | .classOff bs => bs

/-- A decoded instruction; `redundant` says that a DD or FD byte without effect stands before it (R105). -/
structure Decoded where
  instr : Instr
  redundant : Bool
  deriving DecidableEq, Repr

/-- The formats of R90. -/
inductive Format where
  | m | mN | mE | mNn | cb | ed | edNn | xy | xyN | xyNn | xyD | xyDN | xycb
  deriving DecidableEq, Repr

/-- The length of a format in bytes (R90). -/
def Format.len : Format → Nat
  | .m => 1
  | .mN | .mE | .cb | .ed | .xy => 2
  | .mNn | .xyN | .xyD => 3
  | .edNn | .xyNn | .xyDN | .xycb => 4

/-- The format of a row (R90; the table's key `format`). -/
def Instr.format : Instr → Format
  | .nop | .exAfAf | .addHlSs _ | .ldAtBcA | .ldAtDeA | .ldAAtBc | .ldAAtDe | .incSs _ | .decSs _ | .incR _
    | .incAtHl | .decR _ | .decAtHl | .rlca | .rrca | .rla | .rra | .daa | .cpl | .scf | .ccf | .halt |
    .ldRR _ _ | .ldRAtHl _ | .ldAtHlR _ | .addAR _ | .addAAtHl | .adcAR _ | .adcAAtHl | .subR _ | .subAtHl |
    .sbcAR _ | .sbcAAtHl | .andR _ | .andAtHl | .xorR _ | .xorAtHl | .orR _ | .orAtHl | .cpR _ | .cpAtHl |
    .retCc _ | .popQq _ | .ret | .exx | .jpHl | .ldSpHl | .exAtSpHl | .exDeHl | .di | .ei | .pushQq _ |
    .rstP _ =>
    .m
  | .ldRN _ _ | .ldAtHlN _ | .addAN _ | .adcAN _ | .subN _ | .sbcAN _ | .andN _ | .xorN _ | .orN _ | .cpN _
    | .outNA _ | .inAN _ =>
    .mN
  | .djnz _ | .jr _ | .jrCc _ _ =>
    .mE
  | .ldDdNn _ _ | .ldAtNnHl _ | .ldAtNnA _ | .ldHlAtNn _ | .ldAAtNn _ | .jpCcNn _ _ | .jpNn _ | .callCcNn _
    _ | .callNn _ =>
    .mNn
  | .rlcR _ | .rlcAtHl | .rrcR _ | .rrcAtHl | .rlR _ | .rlAtHl | .rrR _ | .rrAtHl | .slaR _ | .slaAtHl |
    .sraR _ | .sraAtHl | .sllR _ | .sllAtHl | .srlR _ | .srlAtHl | .bitBR _ _ | .bitBAtHl _ | .resBR _ _ |
    .resBAtHl _ | .setBR _ _ | .setBAtHl _ =>
    .cb
  | .inRC _ | .inFC | .outCR _ | .outC0 | .sbcHlSs _ | .adcHlSs _ | .neg | .negY _ | .retn | .reti | .retnY
    _ | .im0 | .im1 | .im2 | .imY _ | .ldIA | .ldRA | .ldAI | .ldAR | .rrd | .rld | .nopEd _ | .ldi | .ldd |
    .ldir | .lddr | .cpi | .cpd | .cpir | .cpdr | .ini | .ind | .inir | .indr | .outi | .outd | .otir |
    .otdr =>
    .ed
  | .ldAtNnDd _ _ | .ldDdAtNn _ _ =>
    .edNn
  | .addXyPp _ _ | .incXy _ | .decXy _ | .incXyh _ | .decXyh _ | .incXyl _ | .decXyl _ | .ldHalfP _ _ _ |
    .ldPHalf _ _ _ | .addAHalf _ _ | .adcAHalf _ _ | .subHalf _ _ | .sbcAHalf _ _ | .andHalf _ _ | .xorHalf
    _ _ | .orHalf _ _ | .cpHalf _ _ | .popXy _ | .exAtSpXy _ | .pushXy _ | .jpXy _ | .ldSpXy _ =>
    .xy
  | .ldXyhN _ _ | .ldXylN _ _ =>
    .xyN
  | .ldXyNn _ _ | .ldAtNnXy _ _ | .ldXyAtNn _ _ =>
    .xyNn
  | .incAtXyd _ _ | .decAtXyd _ _ | .ldRAtXyd _ _ _ | .ldAtXydR _ _ _ | .addAAtXyd _ _ | .adcAAtXyd _ _ |
    .subAtXyd _ _ | .sbcAAtXyd _ _ | .andAtXyd _ _ | .xorAtXyd _ _ | .orAtXyd _ _ | .cpAtXyd _ _ =>
    .xyD
  | .ldAtXydN _ _ _ =>
    .xyDN
  | .rlcAtXyd _ _ | .rlcAtXydR _ _ _ | .rrcAtXyd _ _ | .rrcAtXydR _ _ _ | .rlAtXyd _ _ | .rlAtXydR _ _ _ |
    .rrAtXyd _ _ | .rrAtXydR _ _ _ | .slaAtXyd _ _ | .slaAtXydR _ _ _ | .sraAtXyd _ _ | .sraAtXydR _ _ _ |
    .sllAtXyd _ _ | .sllAtXydR _ _ _ | .srlAtXyd _ _ | .srlAtXydR _ _ _ | .bitBAtXyd _ _ _ | .bitBAtXydZ _ _
    _ _ | .resBAtXyd _ _ _ | .resBAtXydR _ _ _ _ | .setBAtXyd _ _ _ | .setBAtXydR _ _ _ _ =>
    .xycb

/-- The class of a row (30_encoding.md R103; the table's key `class`). -/
def Instr.klass : Instr → InstrClass
  | .nop | .exAfAf | .djnz _ | .jr _ | .jrCc _ _ | .ldDdNn _ _ | .addHlSs _ | .ldAtBcA | .ldAtDeA |
    .ldAtNnHl _ | .ldAtNnA _ | .ldAAtBc | .ldAAtDe | .ldHlAtNn _ | .ldAAtNn _ | .incSs _ | .decSs _ | .incR
    _ | .incAtHl | .decR _ | .decAtHl | .ldRN _ _ | .ldAtHlN _ | .rlca | .rrca | .rla | .rra | .daa | .cpl |
    .scf | .ccf | .halt | .ldRR _ _ | .ldRAtHl _ | .ldAtHlR _ | .addAR _ | .addAAtHl | .addAN _ | .adcAR _ |
    .adcAAtHl | .adcAN _ | .subR _ | .subAtHl | .subN _ | .sbcAR _ | .sbcAAtHl | .sbcAN _ | .andR _ |
    .andAtHl | .andN _ | .xorR _ | .xorAtHl | .xorN _ | .orR _ | .orAtHl | .orN _ | .cpR _ | .cpAtHl | .cpN
    _ | .retCc _ | .popQq _ | .ret | .exx | .jpHl | .ldSpHl | .jpCcNn _ _ | .jpNn _ | .outNA _ | .inAN _ |
    .exAtSpHl | .exDeHl | .di | .ei | .callCcNn _ _ | .pushQq _ | .callNn _ | .rstP _ | .rlcR _ | .rlcAtHl |
    .rrcR _ | .rrcAtHl | .rlR _ | .rlAtHl | .rrR _ | .rrAtHl | .slaR _ | .slaAtHl | .sraR _ | .sraAtHl |
    .srlR _ | .srlAtHl | .bitBR _ _ | .bitBAtHl _ | .resBR _ _ | .resBAtHl _ | .setBR _ _ | .setBAtHl _ |
    .inRC _ | .outCR _ | .sbcHlSs _ | .adcHlSs _ | .ldAtNnDd _ _ | .ldDdAtNn _ _ | .neg | .retn | .reti |
    .im0 | .im1 | .im2 | .ldIA | .ldRA | .ldAI | .ldAR | .rrd | .rld | .ldi | .ldd | .ldir | .lddr | .cpi |
    .cpd | .cpir | .cpdr | .ini | .ind | .inir | .indr | .outi | .outd | .otir | .otdr | .addXyPp _ _ |
    .ldXyNn _ _ | .ldAtNnXy _ _ | .incXy _ | .decXy _ | .ldXyAtNn _ _ | .incAtXyd _ _ | .decAtXyd _ _ |
    .ldAtXydN _ _ _ | .ldRAtXyd _ _ _ | .ldAtXydR _ _ _ | .addAAtXyd _ _ | .adcAAtXyd _ _ | .subAtXyd _ _ |
    .sbcAAtXyd _ _ | .andAtXyd _ _ | .xorAtXyd _ _ | .orAtXyd _ _ | .cpAtXyd _ _ | .popXy _ | .exAtSpXy _ |
    .pushXy _ | .jpXy _ | .ldSpXy _ | .rlcAtXyd _ _ | .rrcAtXyd _ _ | .rlAtXyd _ _ | .rrAtXyd _ _ |
    .slaAtXyd _ _ | .sraAtXyd _ _ | .srlAtXyd _ _ | .bitBAtXyd _ _ _ | .resBAtXyd _ _ _ | .setBAtXyd _ _ _ =>
    .documented
  | .sllR _ | .sllAtHl | .inFC | .outC0 | .negY _ | .retnY _ | .imY _ | .nopEd _ | .incXyh _ | .decXyh _ |
    .incXyl _ | .decXyl _ | .ldXyhN _ _ | .ldXylN _ _ | .ldHalfP _ _ _ | .ldPHalf _ _ _ | .addAHalf _ _ |
    .adcAHalf _ _ | .subHalf _ _ | .sbcAHalf _ _ | .andHalf _ _ | .xorHalf _ _ | .orHalf _ _ | .cpHalf _ _ |
    .rlcAtXydR _ _ _ | .rrcAtXydR _ _ _ | .rlAtXydR _ _ _ | .rrAtXydR _ _ _ | .slaAtXydR _ _ _ | .sraAtXydR
    _ _ _ | .sllAtXyd _ _ | .sllAtXydR _ _ _ | .srlAtXydR _ _ _ | .bitBAtXydZ _ _ _ _ | .resBAtXydR _ _ _ _
    | .setBAtXydR _ _ _ _ =>
    .undocumented

/-- The length of a decoded instruction: its format's, and one more for a redundant DD or FD byte. -/
def Decoded.len (k : Decoded) : Nat :=
  k.instr.format.len + (if k.redundant then 1 else 0)

/-! ## Fields and selector tables -/

/-- `x = op[7:6]` (R93). -/
def fieldX (op : Byte) : Nat := op.toNat / 64

/-- `y = op[5:3]` (R93). -/
def fieldY (op : Byte) : Nat := op.toNat / 8 % 8

/-- `z = op[2:0]` (R93). -/
def fieldZ (op : Byte) : Nat := op.toNat % 8

/-- `p = op[5:4]` (R93). -/
def fieldP (op : Byte) : Nat := op.toNat / 16 % 4

/-- `q = op[3]` (R93). -/
def fieldQ (op : Byte) : Nat := op.toNat / 8 % 2

/-- `r8[i]` (R95); none for index 6, the memory byte at HL. -/
def selR8 : Nat → Option Reg8
  | 0 => some .b
  | 1 => some .c
  | 2 => some .d
  | 3 => some .e
  | 4 => some .h
  | 5 => some .l
  | 7 => some .a
  | _ => none

/-- `p8[i]` (R95); none for index 6. -/
def selP8 : Nat → Option Reg8X
  | 0 => some .b
  | 1 => some .c
  | 2 => some .d
  | 3 => some .e
  | 4 => some .xh
  | 5 => some .xl
  | 7 => some .a
  | _ => none

/-- The half `p8[i]` names, for `i` in 4, 5 (R95). -/
def selHalf : Nat → Option Half
  | 4 => some .high
  | 5 => some .low
  | _ => none

/-- `rp[p]` (R95). -/
def selRp : Nat → Rp
  | 0 => .bc
  | 1 => .de
  | 2 => .hl
  | _ => .sp

/-- `rp2[p]` (R95). -/
def selRp2 : Nat → Rp2
  | 0 => .bc
  | 1 => .de
  | 2 => .hl
  | _ => .af

/-- `pp[p]` (R101). -/
def selRpX : Nat → RpX
  | 0 => .bc
  | 1 => .de
  | 2 => .xy
  | _ => .sp

/-- `cc[y]` (R94). -/
def selCond : Nat → Cond
  | 0 => .nz
  | 1 => .z
  | 2 => .nc
  | 3 => .c
  | 4 => .po
  | 5 => .pe
  | 6 => .p
  | _ => .m

/-- `alu[y] r8[z]` (R94, R98). -/
def aluR (y : Nat) (r : Reg8) : Instr :=
  match y with
  | 0 => .addAR r
  | 1 => .adcAR r
  | 2 => .subR r
  | 3 => .sbcAR r
  | 4 => .andR r
  | 5 => .xorR r
  | 6 => .orR r
  | _ => .cpR r

/-- `alu[y] (HL)` (R94, R98). -/
def aluAtHl (y : Nat) : Instr :=
  match y with
  | 0 => .addAAtHl
  | 1 => .adcAAtHl
  | 2 => .subAtHl
  | 3 => .sbcAAtHl
  | 4 => .andAtHl
  | 5 => .xorAtHl
  | 6 => .orAtHl
  | _ => .cpAtHl

/-- `alu[y] n` (R94, R98). -/
def aluN (y : Nat) (n : Byte) : Instr :=
  match y with
  | 0 => .addAN n
  | 1 => .adcAN n
  | 2 => .subN n
  | 3 => .sbcAN n
  | 4 => .andN n
  | 5 => .xorN n
  | 6 => .orN n
  | _ => .cpN n

/-- `alu[y] (XY+d)` (R94, R101). -/
def aluAtXyd (y : Nat) (x : Idx) (d : Byte) : Instr :=
  match y with
  | 0 => .addAAtXyd x d
  | 1 => .adcAAtXyd x d
  | 2 => .subAtXyd x d
  | 3 => .sbcAAtXyd x d
  | 4 => .andAtXyd x d
  | 5 => .xorAtXyd x d
  | 6 => .orAtXyd x d
  | _ => .cpAtXyd x d

/-- `alu[y] p8[z]`, `z` in 4, 5 (R94, R101). -/
def aluHalf (y : Nat) (x : Idx) (hf : Half) : Instr :=
  match y with
  | 0 => .addAHalf x hf
  | 1 => .adcAHalf x hf
  | 2 => .subHalf x hf
  | 3 => .sbcAHalf x hf
  | 4 => .andHalf x hf
  | 5 => .xorHalf x hf
  | 6 => .orHalf x hf
  | _ => .cpHalf x hf

/-- `rot[y] r8[z]` (R94, R99). -/
def rotR (y : Nat) (r : Reg8) : Instr :=
  match y with
  | 0 => .rlcR r
  | 1 => .rrcR r
  | 2 => .rlR r
  | 3 => .rrR r
  | 4 => .slaR r
  | 5 => .sraR r
  | 6 => .sllR r
  | _ => .srlR r

/-- `rot[y] (HL)` (R94, R99). -/
def rotAtHl (y : Nat) : Instr :=
  match y with
  | 0 => .rlcAtHl
  | 1 => .rrcAtHl
  | 2 => .rlAtHl
  | 3 => .rrAtHl
  | 4 => .slaAtHl
  | 5 => .sraAtHl
  | 6 => .sllAtHl
  | _ => .srlAtHl

/-- `rot[y] (XY+d)` (R94, R102). -/
def rotAtXyd (y : Nat) (x : Idx) (d : Byte) : Instr :=
  match y with
  | 0 => .rlcAtXyd x d
  | 1 => .rrcAtXyd x d
  | 2 => .rlAtXyd x d
  | 3 => .rrAtXyd x d
  | 4 => .slaAtXyd x d
  | 5 => .sraAtXyd x d
  | 6 => .sllAtXyd x d
  | _ => .srlAtXyd x d

/-- `rot[y] (XY+d),r8[z]` (R94, R102). -/
def rotAtXydR (y : Nat) (x : Idx) (d : Byte) (r : Reg8) : Instr :=
  match y with
  | 0 => .rlcAtXydR x d r
  | 1 => .rrcAtXydR x d r
  | 2 => .rlAtXydR x d r
  | 3 => .rrAtXydR x d r
  | 4 => .slaAtXydR x d r
  | 5 => .sraAtXydR x d r
  | 6 => .sllAtXydR x d r
  | _ => .srlAtXydR x d r

/-! ## The opcode maps -/

/-- The main table (R98); none for the four prefix bytes. `b1`, `b2` are the bytes after `op`. -/
def mainTable (op b1 b2 : Byte) : Option Instr :=
  match fieldX op with
  | 0 =>
    match fieldZ op with
    | 0 =>
      match fieldY op with
      | 0 => some .nop
      | 1 => some .exAfAf
      | 2 => some (.djnz b1)
      | 3 => some (.jr b1)
      | 4 => some (.jrCc .nz b1)
      | 5 => some (.jrCc .z b1)
      | 6 => some (.jrCc .nc b1)
      | _ => some (.jrCc .c b1)
    | 1 =>
      match fieldQ op with
      | 0 => some (.ldDdNn (selRp (fieldP op)) (join16 b2 b1))
      | _ => some (.addHlSs (selRp (fieldP op)))
    | 2 =>
      match fieldY op with
      | 0 => some .ldAtBcA
      | 1 => some .ldAAtBc
      | 2 => some .ldAtDeA
      | 3 => some .ldAAtDe
      | 4 => some (.ldAtNnHl (join16 b2 b1))
      | 5 => some (.ldHlAtNn (join16 b2 b1))
      | 6 => some (.ldAtNnA (join16 b2 b1))
      | _ => some (.ldAAtNn (join16 b2 b1))
    | 3 =>
      match fieldQ op with
      | 0 => some (.incSs (selRp (fieldP op)))
      | _ => some (.decSs (selRp (fieldP op)))
    | 4 =>
      match selR8 (fieldY op) with
      | some r => some (.incR r)
      | none => some .incAtHl
    | 5 =>
      match selR8 (fieldY op) with
      | some r => some (.decR r)
      | none => some .decAtHl
    | 6 =>
      match selR8 (fieldY op) with
      | some r => some (.ldRN r b1)
      | none => some (.ldAtHlN b1)
    | _ =>
      match fieldY op with
      | 0 => some .rlca
      | 1 => some .rrca
      | 2 => some .rla
      | 3 => some .rra
      | 4 => some .daa
      | 5 => some .cpl
      | 6 => some .scf
      | _ => some .ccf
  | 1 =>
    match selR8 (fieldY op), selR8 (fieldZ op) with
    | some r, some r' => some (.ldRR r r')
    | some r, none => some (.ldRAtHl r)
    | none, some r => some (.ldAtHlR r)
    | none, none => some .halt
  | 2 =>
    match selR8 (fieldZ op) with
    | some r => some (aluR (fieldY op) r)
    | none => some (aluAtHl (fieldY op))
  | _ =>
    match fieldZ op with
    | 0 => some (.retCc (selCond (fieldY op)))
    | 1 =>
      match fieldY op with
      | 1 => some .ret
      | 3 => some .exx
      | 5 => some .jpHl
      | 7 => some .ldSpHl
      | _ => some (.popQq (selRp2 (fieldP op)))
    | 2 => some (.jpCcNn (selCond (fieldY op)) (join16 b2 b1))
    | 3 =>
      match fieldY op with
      | 0 => some (.jpNn (join16 b2 b1))
      | 1 => none
      | 2 => some (.outNA b1)
      | 3 => some (.inAN b1)
      | 4 => some .exAtSpHl
      | 5 => some .exDeHl
      | 6 => some .di
      | _ => some .ei
    | 4 => some (.callCcNn (selCond (fieldY op)) (join16 b2 b1))
    | 5 =>
      match fieldY op with
      | 1 => some (.callNn (join16 b2 b1))
      | 3 => none
      | 5 => none
      | 7 => none
      | _ => some (.pushQq (selRp2 (fieldP op)))
    | 6 => some (aluN (fieldY op) b1)
    | _ => some (.rstP (op.extractLsb' 3 3))

/-- The CB table (R99). -/
def cbTable (op : Byte) : Instr :=
  match fieldX op, selR8 (fieldZ op) with
  | 0, some r => rotR (fieldY op) r
  | 0, none => rotAtHl (fieldY op)
  | 1, some r => .bitBR (op.extractLsb' 3 3) r
  | 1, none => .bitBAtHl (op.extractLsb' 3 3)
  | 2, some r => .resBR (op.extractLsb' 3 3) r
  | 2, none => .resBAtHl (op.extractLsb' 3 3)
  | _, some r => .setBR (op.extractLsb' 3 3) r
  | _, none => .setBAtHl (op.extractLsb' 3 3)

/-- The ED table (R100); none for a hole (R104). `b2`, `b3` are the bytes after `op`. -/
def edTable (op b2 b3 : Byte) : Option Instr :=
  match fieldX op with
  | 1 =>
    match fieldZ op with
    | 0 =>
      match selR8 (fieldY op) with
      | some r => some (.inRC r)
      | none => some .inFC
    | 1 =>
      match selR8 (fieldY op) with
      | some r => some (.outCR r)
      | none => some .outC0
    | 2 =>
      match fieldQ op with
      | 0 => some (.sbcHlSs (selRp (fieldP op)))
      | _ => some (.adcHlSs (selRp (fieldP op)))
    | 3 =>
      match fieldQ op with
      | 0 => some (.ldAtNnDd (join16 b3 b2) (selRp (fieldP op)))
      | _ => some (.ldDdAtNn (selRp (fieldP op)) (join16 b3 b2))
    | 4 =>
      match fieldY op with
      | 0 => some .neg
      | _ => some (.negY (op.extractLsb' 3 3))
    | 5 =>
      match fieldY op with
      | 0 => some .retn
      | 1 => some .reti
      | _ => some (.retnY (op.extractLsb' 3 3))
    | 6 =>
      match fieldY op with
      | 0 => some .im0
      | 2 => some .im1
      | 3 => some .im2
      | _ => some (.imY (op.extractLsb' 3 3))
    | _ =>
      match fieldY op with
      | 0 => some .ldIA
      | 1 => some .ldRA
      | 2 => some .ldAI
      | 3 => some .ldAR
      | 4 => some .rrd
      | 5 => some .rld
      | _ => some (.nopEd (op.extractLsb' 3 1))
  | 2 =>
    match fieldY op, fieldZ op with
    | 4, 0 => some .ldi
    | 5, 0 => some .ldd
    | 6, 0 => some .ldir
    | 7, 0 => some .lddr
    | 4, 1 => some .cpi
    | 5, 1 => some .cpd
    | 6, 1 => some .cpir
    | 7, 1 => some .cpdr
    | 4, 2 => some .ini
    | 5, 2 => some .ind
    | 6, 2 => some .inir
    | 7, 2 => some .indr
    | 4, 3 => some .outi
    | 5, 3 => some .outd
    | 6, 3 => some .otir
    | 7, 3 => some .otdr
    | _, _ => none
  | _ => none

/-- The DD and FD tables without their CB entry (R101); none where the byte has no index form (R105).
`b2`, `b3` are the bytes after `op`. -/
def xyTable (x : Idx) (op b2 b3 : Byte) : Option Instr :=
  match fieldX op with
  | 0 =>
    match fieldZ op with
    | 1 =>
      match fieldQ op, fieldP op with
      | 0, 2 => some (.ldXyNn x (join16 b3 b2))
      | 0, _ => none
      | _, _ => some (.addXyPp x (selRpX (fieldP op)))
    | 2 =>
      match fieldY op with
      | 4 => some (.ldAtNnXy (join16 b3 b2) x)
      | 5 => some (.ldXyAtNn x (join16 b3 b2))
      | _ => none
    | 3 =>
      match fieldY op with
      | 4 => some (.incXy x)
      | 5 => some (.decXy x)
      | _ => none
    | 4 =>
      match fieldY op with
      | 4 => some (.incXyh x)
      | 5 => some (.incXyl x)
      | 6 => some (.incAtXyd x b2)
      | _ => none
    | 5 =>
      match fieldY op with
      | 4 => some (.decXyh x)
      | 5 => some (.decXyl x)
      | 6 => some (.decAtXyd x b2)
      | _ => none
    | 6 =>
      match fieldY op with
      | 4 => some (.ldXyhN x b2)
      | 5 => some (.ldXylN x b2)
      | 6 => some (.ldAtXydN x b2 b3)
      | _ => none
    | _ => none
  | 1 =>
    match selP8 (fieldY op), selP8 (fieldZ op) with
    | some p, some p' =>
      match selHalf (fieldY op), selHalf (fieldZ op) with
      | some hf, _ => some (.ldHalfP x hf p')
      | none, some hf => some (.ldPHalf x p hf)
      | none, none => none
    | some _, none => (selR8 (fieldY op)).map fun r => .ldRAtXyd r x b2
    | none, some _ => (selR8 (fieldZ op)).map fun r => .ldAtXydR x b2 r
    | none, none => none
  | 2 =>
    match selHalf (fieldZ op), fieldZ op with
    | some hf, _ => some (aluHalf (fieldY op) x hf)
    | none, 6 => some (aluAtXyd (fieldY op) x b2)
    | none, _ => none
  | _ =>
    match fieldZ op, fieldY op with
    | 1, 4 => some (.popXy x)
    | 1, 5 => some (.jpXy x)
    | 1, 7 => some (.ldSpXy x)
    | 3, 4 => some (.exAtSpXy x)
    | 5, 4 => some (.pushXy x)
    | _, _ => none

/-- The DD CB and FD CB tables (R102): `d` the displacement, `op` the final byte. -/
def xycbTable (x : Idx) (d op : Byte) : Instr :=
  match fieldX op, selR8 (fieldZ op) with
  | 0, some r => rotAtXydR (fieldY op) x d r
  | 0, none => rotAtXyd (fieldY op) x d
  | 1, some _ => .bitBAtXydZ (op.extractLsb' 3 3) x d (op.extractLsb' 0 3)
  | 1, none => .bitBAtXyd (op.extractLsb' 3 3) x d
  | 2, some r => .resBAtXydR (op.extractLsb' 3 3) x d r
  | 2, none => .resBAtXyd (op.extractLsb' 3 3) x d
  | _, some r => .setBAtXydR (op.extractLsb' 3 3) x d r
  | _, none => .setBAtXyd (op.extractLsb' 3 3) x d

/-! ## The dispatcher's selection -/

/-- `Defined(T, b)` (R92): the entry, if its class is in `IMPL`. -/
def admitted (impl : Impl) (bytes : List Byte) (i : Instr) : Except DecodeError Decoded :=
  if impl.has i.klass then .ok { instr := i, redundant := false } else .error (.classOff bytes)

/-- The part of the dispatcher after a DD or FD byte (R92, R101, R105). -/
def decodeXy (impl : Impl) (x : Idx) (w : Window) : Except DecodeError Decoded :=
  if w.b1 = 0xCB#8 then admitted impl [w.b0, w.b1, w.b2, w.b3] (xycbTable x w.b2 w.b3)
  else if w.b1 = 0xDD#8 ∨ w.b1 = 0xED#8 ∨ w.b1 = 0xFD#8 then .error (.secondPfx [w.b0, w.b1])
  else
    match xyTable x w.b1 w.b2 w.b3, mainTable w.b1 w.b2 w.b3 with
    | some i, _ => admitted impl [w.b0, w.b1] i
    | none, some i =>
      if impl.redundantPfx then .ok { instr := i, redundant := true }
      else .error (.redundantPfx [w.b0, w.b1])
    | none, none => .error (.secondPfx [w.b0, w.b1])

/-- The dispatcher's choice of an instruction (R92) with the classes `impl` (R103): total on any bytes. -/
def decodeWith (impl : Impl) (w : Window) : Except DecodeError Decoded :=
  if w.b0 = 0xCB#8 then admitted impl [w.b0, w.b1] (cbTable w.b1)
  else if w.b0 = 0xED#8 then
    match edTable w.b1 w.b2 w.b3 with
    | some i => admitted impl [w.b0, w.b1] i
    | none => .error (.edHole [w.b0, w.b1])
  else if w.b0 = 0xDD#8 then decodeXy impl .ix w
  else if w.b0 = 0xFD#8 then decodeXy impl .iy w
  else
    match mainTable w.b0 w.b1 w.b2 with
    | some i => admitted impl [w.b0] i
    | none => .error (.classOff [w.b0])

/-- The decoder under the default `IMPL` (R4). -/
def decode (w : Window) : Except DecodeError Decoded := decodeWith Config.impl w

/-! ## The encoder -/

/-- The index of a register in `r8` (R95). -/
def Reg8.code : Reg8 → BitVec 3
  | .b => 0#3
  | .c => 1#3
  | .d => 2#3
  | .e => 3#3
  | .h => 4#3
  | .l => 5#3
  | .a => 7#3

/-- The index of a register in `p8` (R95). -/
def Reg8X.code : Reg8X → BitVec 3
  | .b => 0#3
  | .c => 1#3
  | .d => 2#3
  | .e => 3#3
  | .xh => 4#3
  | .xl => 5#3
  | .a => 7#3

/-- The index of a half in `p8` (R95). -/
def Half.code : Half → BitVec 3
  | .high => 4#3
  | .low => 5#3

/-- The index of a pair in `rp` (R95). -/
def Rp.code : Rp → BitVec 2
  | .bc => 0#2
  | .de => 1#2
  | .hl => 2#2
  | .sp => 3#2

/-- The index of a pair in `rp2` (R95). -/
def Rp2.code : Rp2 → BitVec 2
  | .bc => 0#2
  | .de => 1#2
  | .hl => 2#2
  | .af => 3#2

/-- The index of a pair in `pp` (R101). -/
def RpX.code : RpX → BitVec 2
  | .bc => 0#2
  | .de => 1#2
  | .xy => 2#2
  | .sp => 3#2

/-- The index of a condition in `cc` (R94). -/
def Cond.code : Cond → BitVec 3
  | .nz => 0#3
  | .z => 1#3
  | .nc => 2#3
  | .c => 3#3
  | .po => 4#3
  | .pe => 5#3
  | .p => 6#3
  | .m => 7#3

/-- The field `y` of a `JR cc`: the index of the condition plus 4 (R98). -/
def CondJr.code : CondJr → BitVec 3
  | .nz => 4#3
  | .z => 5#3
  | .nc => 6#3
  | .c => 7#3

/-- The first byte of the index register's table: 0xDD for IX, 0xFD for IY (R92). -/
def Idx.lead : Idx → Byte
  | .ix => 0xDD#8
  | .iy => 0xFD#8

/-- An opcode byte from its fields `x`, `y`, `z` (R93). -/
def xyz (x : BitVec 2) (y z : BitVec 3) : Byte := x ++ y ++ z

/-- An opcode byte from its fields `x`, `p`, `q`, `z` (R93). -/
def xpqz (x p : BitVec 2) (q : BitVec 1) (z : BitVec 3) : Byte := x ++ p ++ q ++ z

/-- The bytes of an instruction in fetch order, from the encoding tables (R98 to R102). -/
def encode : Instr → List Byte
  | .nop => [0x00#8]
  | .exAfAf => [0x08#8]
  | .djnz e => [0x10#8, e]
  | .jr e => [0x18#8, e]
  | .jrCc cc e => [xyz 0#2 cc.code 0#3, e]
  | .ldDdNn dd nn => [xpqz 0#2 dd.code 0#1 1#3, lo8 nn, hi8 nn]
  | .addHlSs ss => [xpqz 0#2 ss.code 1#1 1#3]
  | .ldAtBcA => [0x02#8]
  | .ldAtDeA => [0x12#8]
  | .ldAtNnHl nn => [0x22#8, lo8 nn, hi8 nn]
  | .ldAtNnA nn => [0x32#8, lo8 nn, hi8 nn]
  | .ldAAtBc => [0x0A#8]
  | .ldAAtDe => [0x1A#8]
  | .ldHlAtNn nn => [0x2A#8, lo8 nn, hi8 nn]
  | .ldAAtNn nn => [0x3A#8, lo8 nn, hi8 nn]
  | .incSs ss => [xpqz 0#2 ss.code 0#1 3#3]
  | .decSs ss => [xpqz 0#2 ss.code 1#1 3#3]
  | .incR r => [xyz 0#2 r.code 4#3]
  | .incAtHl => [0x34#8]
  | .decR r => [xyz 0#2 r.code 5#3]
  | .decAtHl => [0x35#8]
  | .ldRN r n => [xyz 0#2 r.code 6#3, n]
  | .ldAtHlN n => [0x36#8, n]
  | .rlca => [0x07#8]
  | .rrca => [0x0F#8]
  | .rla => [0x17#8]
  | .rra => [0x1F#8]
  | .daa => [0x27#8]
  | .cpl => [0x2F#8]
  | .scf => [0x37#8]
  | .ccf => [0x3F#8]
  | .halt => [0x76#8]
  | .ldRR r r' => [xyz 1#2 r.code r'.code]
  | .ldRAtHl r => [xyz 1#2 r.code 6#3]
  | .ldAtHlR r => [xyz 1#2 6#3 r.code]
  | .addAR r => [xyz 2#2 0#3 r.code]
  | .addAAtHl => [xyz 2#2 0#3 6#3]
  | .addAN n => [xyz 3#2 0#3 6#3, n]
  | .adcAR r => [xyz 2#2 1#3 r.code]
  | .adcAAtHl => [xyz 2#2 1#3 6#3]
  | .adcAN n => [xyz 3#2 1#3 6#3, n]
  | .subR r => [xyz 2#2 2#3 r.code]
  | .subAtHl => [xyz 2#2 2#3 6#3]
  | .subN n => [xyz 3#2 2#3 6#3, n]
  | .sbcAR r => [xyz 2#2 3#3 r.code]
  | .sbcAAtHl => [xyz 2#2 3#3 6#3]
  | .sbcAN n => [xyz 3#2 3#3 6#3, n]
  | .andR r => [xyz 2#2 4#3 r.code]
  | .andAtHl => [xyz 2#2 4#3 6#3]
  | .andN n => [xyz 3#2 4#3 6#3, n]
  | .xorR r => [xyz 2#2 5#3 r.code]
  | .xorAtHl => [xyz 2#2 5#3 6#3]
  | .xorN n => [xyz 3#2 5#3 6#3, n]
  | .orR r => [xyz 2#2 6#3 r.code]
  | .orAtHl => [xyz 2#2 6#3 6#3]
  | .orN n => [xyz 3#2 6#3 6#3, n]
  | .cpR r => [xyz 2#2 7#3 r.code]
  | .cpAtHl => [xyz 2#2 7#3 6#3]
  | .cpN n => [xyz 3#2 7#3 6#3, n]
  | .retCc cc => [xyz 3#2 cc.code 0#3]
  | .popQq qq => [xpqz 3#2 qq.code 0#1 1#3]
  | .ret => [0xC9#8]
  | .exx => [0xD9#8]
  | .jpHl => [0xE9#8]
  | .ldSpHl => [0xF9#8]
  | .jpCcNn cc nn => [xyz 3#2 cc.code 2#3, lo8 nn, hi8 nn]
  | .jpNn nn => [0xC3#8, lo8 nn, hi8 nn]
  | .outNA n => [0xD3#8, n]
  | .inAN n => [0xDB#8, n]
  | .exAtSpHl => [0xE3#8]
  | .exDeHl => [0xEB#8]
  | .di => [0xF3#8]
  | .ei => [0xFB#8]
  | .callCcNn cc nn => [xyz 3#2 cc.code 4#3, lo8 nn, hi8 nn]
  | .pushQq qq => [xpqz 3#2 qq.code 0#1 5#3]
  | .callNn nn => [0xCD#8, lo8 nn, hi8 nn]
  | .rstP t => [xyz 3#2 t 7#3]
  | .rlcR r => [0xCB#8, xyz 0#2 0#3 r.code]
  | .rlcAtHl => [0xCB#8, xyz 0#2 0#3 6#3]
  | .rrcR r => [0xCB#8, xyz 0#2 1#3 r.code]
  | .rrcAtHl => [0xCB#8, xyz 0#2 1#3 6#3]
  | .rlR r => [0xCB#8, xyz 0#2 2#3 r.code]
  | .rlAtHl => [0xCB#8, xyz 0#2 2#3 6#3]
  | .rrR r => [0xCB#8, xyz 0#2 3#3 r.code]
  | .rrAtHl => [0xCB#8, xyz 0#2 3#3 6#3]
  | .slaR r => [0xCB#8, xyz 0#2 4#3 r.code]
  | .slaAtHl => [0xCB#8, xyz 0#2 4#3 6#3]
  | .sraR r => [0xCB#8, xyz 0#2 5#3 r.code]
  | .sraAtHl => [0xCB#8, xyz 0#2 5#3 6#3]
  | .sllR r => [0xCB#8, xyz 0#2 6#3 r.code]
  | .sllAtHl => [0xCB#8, xyz 0#2 6#3 6#3]
  | .srlR r => [0xCB#8, xyz 0#2 7#3 r.code]
  | .srlAtHl => [0xCB#8, xyz 0#2 7#3 6#3]
  | .bitBR b r => [0xCB#8, xyz 1#2 b r.code]
  | .bitBAtHl b => [0xCB#8, xyz 1#2 b 6#3]
  | .resBR b r => [0xCB#8, xyz 2#2 b r.code]
  | .resBAtHl b => [0xCB#8, xyz 2#2 b 6#3]
  | .setBR b r => [0xCB#8, xyz 3#2 b r.code]
  | .setBAtHl b => [0xCB#8, xyz 3#2 b 6#3]
  | .inRC r => [0xED#8, xyz 1#2 r.code 0#3]
  | .inFC => [0xED#8, 0x70#8]
  | .outCR r => [0xED#8, xyz 1#2 r.code 1#3]
  | .outC0 => [0xED#8, 0x71#8]
  | .sbcHlSs ss => [0xED#8, xpqz 1#2 ss.code 0#1 2#3]
  | .adcHlSs ss => [0xED#8, xpqz 1#2 ss.code 1#1 2#3]
  | .ldAtNnDd nn dd => [0xED#8, xpqz 1#2 dd.code 0#1 3#3, lo8 nn, hi8 nn]
  | .ldDdAtNn dd nn => [0xED#8, xpqz 1#2 dd.code 1#1 3#3, lo8 nn, hi8 nn]
  | .neg => [0xED#8, 0x44#8]
  | .negY y => [0xED#8, xyz 1#2 y 4#3]
  | .retn => [0xED#8, 0x45#8]
  | .reti => [0xED#8, 0x4D#8]
  | .retnY y => [0xED#8, xyz 1#2 y 5#3]
  | .im0 => [0xED#8, 0x46#8]
  | .im1 => [0xED#8, 0x56#8]
  | .im2 => [0xED#8, 0x5E#8]
  | .imY y => [0xED#8, xyz 1#2 y 6#3]
  | .ldIA => [0xED#8, 0x47#8]
  | .ldRA => [0xED#8, 0x4F#8]
  | .ldAI => [0xED#8, 0x57#8]
  | .ldAR => [0xED#8, 0x5F#8]
  | .rrd => [0xED#8, 0x67#8]
  | .rld => [0xED#8, 0x6F#8]
  | .nopEd q => [0xED#8, xpqz 1#2 3#2 q 7#3]
  | .ldi => [0xED#8, 0xA0#8]
  | .ldd => [0xED#8, 0xA8#8]
  | .ldir => [0xED#8, 0xB0#8]
  | .lddr => [0xED#8, 0xB8#8]
  | .cpi => [0xED#8, 0xA1#8]
  | .cpd => [0xED#8, 0xA9#8]
  | .cpir => [0xED#8, 0xB1#8]
  | .cpdr => [0xED#8, 0xB9#8]
  | .ini => [0xED#8, 0xA2#8]
  | .ind => [0xED#8, 0xAA#8]
  | .inir => [0xED#8, 0xB2#8]
  | .indr => [0xED#8, 0xBA#8]
  | .outi => [0xED#8, 0xA3#8]
  | .outd => [0xED#8, 0xAB#8]
  | .otir => [0xED#8, 0xB3#8]
  | .otdr => [0xED#8, 0xBB#8]
  | .addXyPp x pp => [x.lead, xpqz 0#2 pp.code 1#1 1#3]
  | .ldXyNn x nn => [x.lead, 0x21#8, lo8 nn, hi8 nn]
  | .ldAtNnXy nn x => [x.lead, 0x22#8, lo8 nn, hi8 nn]
  | .incXy x => [x.lead, 0x23#8]
  | .decXy x => [x.lead, 0x2B#8]
  | .ldXyAtNn x nn => [x.lead, 0x2A#8, lo8 nn, hi8 nn]
  | .incXyh x => [x.lead, 0x24#8]
  | .decXyh x => [x.lead, 0x25#8]
  | .incXyl x => [x.lead, 0x2C#8]
  | .decXyl x => [x.lead, 0x2D#8]
  | .ldXyhN x n => [x.lead, 0x26#8, n]
  | .ldXylN x n => [x.lead, 0x2E#8, n]
  | .incAtXyd x d => [x.lead, 0x34#8, d]
  | .decAtXyd x d => [x.lead, 0x35#8, d]
  | .ldAtXydN x d n => [x.lead, 0x36#8, d, n]
  | .ldRAtXyd r x d => [x.lead, xyz 1#2 r.code 6#3, d]
  | .ldAtXydR x d r => [x.lead, xyz 1#2 6#3 r.code, d]
  | .ldHalfP x hf p => [x.lead, xyz 1#2 hf.code p.code]
  | .ldPHalf x p hf => [x.lead, xyz 1#2 p.code hf.code]
  | .addAAtXyd x d => [x.lead, xyz 2#2 0#3 6#3, d]
  | .addAHalf x hf => [x.lead, xyz 2#2 0#3 hf.code]
  | .adcAAtXyd x d => [x.lead, xyz 2#2 1#3 6#3, d]
  | .adcAHalf x hf => [x.lead, xyz 2#2 1#3 hf.code]
  | .subAtXyd x d => [x.lead, xyz 2#2 2#3 6#3, d]
  | .subHalf x hf => [x.lead, xyz 2#2 2#3 hf.code]
  | .sbcAAtXyd x d => [x.lead, xyz 2#2 3#3 6#3, d]
  | .sbcAHalf x hf => [x.lead, xyz 2#2 3#3 hf.code]
  | .andAtXyd x d => [x.lead, xyz 2#2 4#3 6#3, d]
  | .andHalf x hf => [x.lead, xyz 2#2 4#3 hf.code]
  | .xorAtXyd x d => [x.lead, xyz 2#2 5#3 6#3, d]
  | .xorHalf x hf => [x.lead, xyz 2#2 5#3 hf.code]
  | .orAtXyd x d => [x.lead, xyz 2#2 6#3 6#3, d]
  | .orHalf x hf => [x.lead, xyz 2#2 6#3 hf.code]
  | .cpAtXyd x d => [x.lead, xyz 2#2 7#3 6#3, d]
  | .cpHalf x hf => [x.lead, xyz 2#2 7#3 hf.code]
  | .popXy x => [x.lead, 0xE1#8]
  | .exAtSpXy x => [x.lead, 0xE3#8]
  | .pushXy x => [x.lead, 0xE5#8]
  | .jpXy x => [x.lead, 0xE9#8]
  | .ldSpXy x => [x.lead, 0xF9#8]
  | .rlcAtXyd x d => [x.lead, 0xCB#8, d, xyz 0#2 0#3 6#3]
  | .rlcAtXydR x d r => [x.lead, 0xCB#8, d, xyz 0#2 0#3 r.code]
  | .rrcAtXyd x d => [x.lead, 0xCB#8, d, xyz 0#2 1#3 6#3]
  | .rrcAtXydR x d r => [x.lead, 0xCB#8, d, xyz 0#2 1#3 r.code]
  | .rlAtXyd x d => [x.lead, 0xCB#8, d, xyz 0#2 2#3 6#3]
  | .rlAtXydR x d r => [x.lead, 0xCB#8, d, xyz 0#2 2#3 r.code]
  | .rrAtXyd x d => [x.lead, 0xCB#8, d, xyz 0#2 3#3 6#3]
  | .rrAtXydR x d r => [x.lead, 0xCB#8, d, xyz 0#2 3#3 r.code]
  | .slaAtXyd x d => [x.lead, 0xCB#8, d, xyz 0#2 4#3 6#3]
  | .slaAtXydR x d r => [x.lead, 0xCB#8, d, xyz 0#2 4#3 r.code]
  | .sraAtXyd x d => [x.lead, 0xCB#8, d, xyz 0#2 5#3 6#3]
  | .sraAtXydR x d r => [x.lead, 0xCB#8, d, xyz 0#2 5#3 r.code]
  | .sllAtXyd x d => [x.lead, 0xCB#8, d, xyz 0#2 6#3 6#3]
  | .sllAtXydR x d r => [x.lead, 0xCB#8, d, xyz 0#2 6#3 r.code]
  | .srlAtXyd x d => [x.lead, 0xCB#8, d, xyz 0#2 7#3 6#3]
  | .srlAtXydR x d r => [x.lead, 0xCB#8, d, xyz 0#2 7#3 r.code]
  | .bitBAtXyd b x d => [x.lead, 0xCB#8, d, xyz 1#2 b 6#3]
  | .bitBAtXydZ b x d z => [x.lead, 0xCB#8, d, xyz 1#2 b z]
  | .resBAtXyd b x d => [x.lead, 0xCB#8, d, xyz 2#2 b 6#3]
  | .resBAtXydR b x d r => [x.lead, 0xCB#8, d, xyz 2#2 b r.code]
  | .setBAtXyd b x d => [x.lead, 0xCB#8, d, xyz 3#2 b 6#3]
  | .setBAtXydR b x d r => [x.lead, 0xCB#8, d, xyz 3#2 b r.code]

/-! ## What the host asks -/

/-- The instruction the decoder reads from an instruction whose bits are `w`, byte `k` in bits
`8k+7 .. 8k`, every bit from `nbits` up being 0; none where it refuses. -/
def decodeTableWord (nbits w : Nat) : Option Instr :=
  let v := w % 2 ^ nbits
  let byte (k : Nat) : Byte := BitVec.ofNat 8 (v / 256 ^ k)
  match decode { b0 := byte 0, b1 := byte 1, b2 := byte 2, b3 := byte 3 } with
  | .ok k => some k.instr
  | .error _ => none

end Sys2Proof
end

