-- ==== Sys2Proof/Machine/State.lean ====
section
/-! DEFINITION. Everything the machine holds (10_state.md R20), what lies behind its bus, the reasons a step
can stop, and the state after cold start. -/

namespace Sys2Proof.Machine

/-- The interrupt mode: "three discrete modes: 0, 1, 2" (10_state.md R32). -/
inductive IntMode where
  | im0 | im1 | im2
  deriving DecidableEq, Repr

/-- The pending-request bitmask `req` as five named booleans (10_state.md R33, D31). -/
structure Req where
  reset : Bool
  irqA : Bool
  irqB : Bool
  nmiDebug : Bool
  nmiOther : Bool
  deriving DecidableEq, Repr

/-- No request pending. -/
def Req.empty : Req :=
  { reset := false, irqA := false, irqB := false, nmiDebug := false, nmiOther := false }

/-- What the environment can do between two steps and inside a bus operation or `Tick` (00_scope.md R10): the
signal entry points of 60_exceptions.md R402, the query of PC among them (R432), and a change of one memory byte
(20_memory.md R67). -/
inductive EnvAction where
  | assertIrqA | deassertIrqA | assertIrqB | deassertIrqB
  | assertNmiDebug | assertNmiOther
  | requestReset
  | queryPc
  | changeByte (addr : Word) (v : Byte)
  deriving DecidableEq, Repr

/-- An entry of the record of what passes between the core and its environment: the bus operations of
20_memory.md R60 to R62 with the values transferred, the output event of 60_exceptions.md R410, and the answer
to a query of PC (R432). -/
inductive BusOp where
  | memRead (addr : Word) (v : Byte)
  | memWrite (addr : Word) (v : Byte)
  | portRead (port : Word) (v : Byte)
  | portWrite (port : Word) (v : Byte)
  | tick (n : Nat)
  | debugNmiActivated
  | pcQuery (pc : Word)
  deriving DecidableEq, Repr

/-- Why the machine stops. -/
inductive Fault where
  /-- The decode fault (60_exceptions.md R400): the bytes at `addr` have no handler. `addr` is the address of
  the first byte, `bytes` the prefix and opcode bytes fetched (D19), `trace` what the core has issued up to
  and with the reads that fetched them, newest first: those reads "have happened and are visible to the
  environment" (R400). Raised by the dispatcher only (Machine/Step.lean). It is the spec's own fault, so it is
  safe. -/
  | decodeFault (addr : Word) (bytes : List Byte) (trace : List BusOp)
  deriving DecidableEq, Repr

/-- Why the model gives an instruction no meaning. -/
inductive Refusal where
  /-- An instruction of the table that has no meaning yet, by its mnemonic. No arm of this model raises it;
  it would be safe. -/
  | notModelled (mnemonic : String)
  deriving DecidableEq, Repr

/-- The memory behind the bus: the listed bytes at strictly rising addresses, none equal to
`Config.unlistedByte`, which every unlisted address reads as (log entry 2). -/
abbrev Memory := List Host.Cell

/-- The state. The fields down to `halted` are 10_state.md R20's complete list; `mem` is the memory behind
the bus (20_memory.md R60, D23); the last five are the model's own (log entries 3, 4, 5). -/
@[ext]
structure State where
  /-- A, the accumulator. -/
  a : Byte
  /-- F, the flags: S Z Y H X P N C in bits 7 to 0 (R25). -/
  f : Byte
  b : Byte
  c : Byte
  d : Byte
  e : Byte
  h : Byte
  l : Byte
  /-- AF', with BC' DE' HL' the shadow set (R23). -/
  af' : Word
  bc' : Word
  de' : Word
  hl' : Word
  ix : Word
  iy : Word
  sp : Word
  pc : Word
  /-- WZ, the hidden address latch (R27). -/
  wz : Word
  /-- I, the interrupt vector register (R28). -/
  i : Byte
  /-- R, the memory refresh register (R29). -/
  r : Byte
  iff1 : Bool
  iff2 : Bool
  im : IntMode
  req : Req
  /-- `irq_delay`, the one-shot accept delay (R34). -/
  irqDelay : Bool
  /-- The core is in the HALT state (R35). -/
  halted : Bool
  mem : Memory
  /-- The environment's ready answers to the coming port reads, oldest first. -/
  portIn : List Byte
  /-- How many port reads took the free value `Config.freePortByte`. -/
  freeCount : Nat
  /-- What the environment does before each coming step. -/
  env : List (List EnvAction)
  /-- What the environment does inside each coming bus operation or `Tick`. -/
  inside : List (List EnvAction)
  /-- The record of what the core has issued and what queries of PC were answered, newest first. -/
  trace : List BusOp
  deriving DecidableEq, Repr

/-- What every meaning answers. -/
abbrev Result : Type := Host.Outcome State Fault Refusal

/-- Cold start (70_reset_and_hazards.md R450, 10_state.md R37), for the values `u` of what it leaves
unspecified. Memory and the model's own fields are empty. -/
def State.coldStart (u : ColdUnlisted) : State where
  a := 0xFF#8
  f := 0xFF#8
  b := 0xFF#8
  c := 0xFF#8
  d := 0xFF#8
  e := 0xFF#8
  h := 0xFF#8
  l := 0xFF#8
  af' := 0xFFFF#16
  bc' := u.bc'
  de' := u.de'
  hl' := u.hl'
  ix := u.ix
  iy := u.iy
  sp := 0xFFFF#16
  pc := 0x0000#16
  wz := u.wz
  i := 0x00#8
  r := 0x00#8
  iff1 := false
  iff2 := false
  im := .im0
  req := Req.empty
  irqDelay := false
  halted := false
  mem := []
  portIn := []
  freeCount := 0
  env := []
  inside := []
  trace := []

/-- The machine right after reset: cold start with the model's values for the unlisted registers
(log entry 1). -/
def State.reset : State := State.coldStart Config.coldUnlisted

end Sys2Proof.Machine
end

