-- ==== Sys2Proof/Machine/Memory.lean ====
section
/-! DEFINITION. Reading and writing one byte of the memory behind the bus (20_memory.md R60), in one canonical
form, so that equal memories are equal data. -/

namespace Sys2Proof.Machine

/-- The byte at an address: the listed one, else what an unlisted address reads as. -/
def Memory.read : Memory → Nat → Byte
  | [], _ => Config.unlistedByte
  | (k, v) :: m, a => if a = k then v else Memory.read m a

/-- Put a byte in front of a list whose addresses are all greater, unless it is what an unlisted address
reads as. -/
def Memory.list (a : Nat) (v : Byte) (m : Memory) : Memory :=
  if v = Config.unlistedByte then m else (a, v) :: m

/-- Write one byte, keeping the canonical form. -/
def Memory.write : Memory → Nat → Byte → Memory
  | [], a, v => Memory.list a v []
  | (k, w) :: m, a, v =>
    if a < k then Memory.list a v ((k, w) :: m)
    else if a = k then Memory.list a v m
    else (k, w) :: Memory.write m a v

/-- Every address listed from here on is at least `lo` and below 65536, they rise strictly, and no listed
byte is what an unlisted address reads as. -/
def Memory.wfFrom : Nat → Memory → Bool
  | _, [] => true
  | lo, (k, v) :: m =>
    decide (lo ≤ k) && decide (k < 65536) && decide (v ≠ Config.unlistedByte) && Memory.wfFrom (k + 1) m

/-- The canonical form. -/
def Memory.wf (m : Memory) : Bool := Memory.wfFrom 0 m

end Sys2Proof.Machine
end

