-- ==== Sys2Proof/Machine/Ops.lean ====
section
/-! DEFINITION. The named operations over registers, bus and control state: the environment's entry points
(60_exceptions.md R402) and the moments at which it acts (00_scope.md R10), the pseudocode primitives of R7, the
instruction fetch of 30_encoding.md R92, the three services and the boundary of 60_exceptions.md. -/

namespace Sys2Proof.Machine

/-! ## Single-field updates -/

def State.setA (s : State) (v : Byte) : State := { s with a := v }
def State.setF (s : State) (v : Byte) : State := { s with f := v }
def State.setB (s : State) (v : Byte) : State := { s with b := v }
def State.setC (s : State) (v : Byte) : State := { s with c := v }
def State.setD (s : State) (v : Byte) : State := { s with d := v }
def State.setE (s : State) (v : Byte) : State := { s with e := v }
def State.setH (s : State) (v : Byte) : State := { s with h := v }
def State.setL (s : State) (v : Byte) : State := { s with l := v }
def State.setAf' (s : State) (v : Word) : State := { s with af' := v }
def State.setBc' (s : State) (v : Word) : State := { s with bc' := v }
def State.setDe' (s : State) (v : Word) : State := { s with de' := v }
def State.setHl' (s : State) (v : Word) : State := { s with hl' := v }
def State.setIx (s : State) (v : Word) : State := { s with ix := v }
def State.setIy (s : State) (v : Word) : State := { s with iy := v }
def State.setSp (s : State) (v : Word) : State := { s with sp := v }
def State.setPc (s : State) (v : Word) : State := { s with pc := v }
def State.setWz (s : State) (v : Word) : State := { s with wz := v }
def State.setI (s : State) (v : Byte) : State := { s with i := v }
def State.setR (s : State) (v : Byte) : State := { s with r := v }
def State.setIff1 (s : State) (v : Bool) : State := { s with iff1 := v }
def State.setIff2 (s : State) (v : Bool) : State := { s with iff2 := v }
def State.setIm (s : State) (v : IntMode) : State := { s with im := v }
def State.setReq (s : State) (v : Req) : State := { s with req := v }
def State.setIrqDelay (s : State) (v : Bool) : State := { s with irqDelay := v }
def State.setHalted (s : State) (v : Bool) : State := { s with halted := v }
def State.setMem (s : State) (v : Memory) : State := { s with mem := v }
def State.setPortIn (s : State) (v : List Byte) : State := { s with portIn := v }
def State.setFreeCount (s : State) (v : Nat) : State := { s with freeCount := v }
def State.setEnv (s : State) (v : List (List EnvAction)) : State := { s with env := v }
def State.setInside (s : State) (v : List (List EnvAction)) : State := { s with inside := v }

/-! ## Pairs (10_state.md R21) -/

def State.af (s : State) : Word := join16 s.a s.f
def State.bc (s : State) : Word := join16 s.b s.c
def State.de (s : State) : Word := join16 s.d s.e
def State.hl (s : State) : Word := join16 s.h s.l
/-- The pair `IR = I:R` (R21). -/
def State.ir (s : State) : Word := join16 s.i s.r

def State.setAf (s : State) (v : Word) : State := (s.setA (hi8 v)).setF (lo8 v)
def State.setBc (s : State) (v : Word) : State := (s.setB (hi8 v)).setC (lo8 v)
def State.setDe (s : State) (v : Word) : State := (s.setD (hi8 v)).setE (lo8 v)
def State.setHl (s : State) (v : Word) : State := (s.setH (hi8 v)).setL (lo8 v)

/-- `IncR()` (10_state.md R30): the low seven bits count, bit 7 is kept. -/
def State.incR (s : State) : State := s.setR ((s.r &&& 0x80#8) ||| ((s.r + 1#8) &&& 0x7F#8))

/-! ## The record -/

/-- Record what the core issues to its environment. -/
def State.emit (s : State) (o : BusOp) : State := { s with trace := o :: s.trace }

/-! ## The environment (00_scope.md R10, 20_memory.md R67, 60_exceptions.md R402)

It acts before a step and inside every bus operation and every `Tick`: in a bus operation before it answers, in
a `Tick` after the charge. What it does at each of these moments is the next entry of a list in State (log
entry 5). -/

/-- The byte the memory behind the bus holds at an address, without a bus operation. -/
def State.peek (s : State) (addr : Word) : Byte := s.mem.read addr.toNat

/-- The entry point "query program counter" (R402, R432): it changes nothing. -/
def State.queryPc (s : State) : Word := s.pc

/-- One action of the environment. A signal entry point writes `req` and nothing else; the answer to a query of
PC goes to the record. -/
def State.act (s : State) : EnvAction → State
  | .assertIrqA => s.setReq { s.req with irqA := true }
  | .deassertIrqA => s.setReq { s.req with irqA := false }
  | .assertIrqB => s.setReq { s.req with irqB := true }
  | .deassertIrqB => s.setReq { s.req with irqB := false }
  | .assertNmiDebug => s.setReq { s.req with nmiDebug := true }
  | .assertNmiOther => s.setReq { s.req with nmiOther := true }
  | .requestReset => s.setReq { s.req with reset := true }
  | .queryPc => s.emit (.pcQuery s.queryPc)
  | .changeByte addr v => s.setMem (s.mem.write addr.toNat v)

/-- Some actions of the environment, in order. -/
def State.acts (s : State) (l : List EnvAction) : State := l.foldl State.act s

/-- What the environment does before the coming step. -/
def State.arrive (s : State) : State :=
  match s.env with
  | [] => s
  | l :: rest => (s.setEnv rest).acts l

/-- What the environment does inside the bus operation or `Tick` now issued. -/
def State.react (s : State) : State :=
  match s.inside with
  | [] => s
  | l :: rest => (s.setInside rest).acts l

/-! ## The clock (20_memory.md R62)

The charges are the parameter `TSTATES` with the values of 70_reset_and_hazards.md R470 and R471; no rule's
outcome depends on them (D18). -/

/-- The charge of one `FetchOp` (R471). -/
def tFetchOp : Nat := 4

/-- The charge of one other memory read or write (R471). -/
def tMem : Nat := 3

/-- The charge of one port read or write (R471). -/
def tPort : Nat := 4

/-- The charge of the final byte's read of a DD CB or FD CB instruction (R471). -/
def tFinalByte : Nat := 5

/-- `Tick(n)`. -/
def State.tick (s : State) (n : Nat) : State := (s.emit (.tick n)).react

/-! ## The memory bus (20_memory.md R60, R63, R65) -/

/-- One byte-read on the bus, its charge still due: "a read returns whatever the environment answers at that
moment" (R67). -/
def State.busRead (s : State) (addr : Word) : Byte × State :=
  let s := s.react
  (s.peek addr, s.emit (.memRead addr (s.peek addr)))

/-- `MemRead(addr, 1)` (00_scope.md R7). -/
def State.memRead (s : State) (addr : Word) : Byte × State :=
  let (v, s) := s.busRead addr
  (v, s.tick tMem)

/-- `MemWrite(addr, 1, v)` (R7). -/
def State.memWrite (s : State) (addr : Word) (v : Byte) : State :=
  let s := s.react
  ((s.setMem (s.mem.write addr.toNat v)).emit (.memWrite addr v)).tick tMem

/-- `MemRead(addr, 2)` (R7): low byte first, at the lower address. -/
def State.memRead16 (s : State) (addr : Word) : Word × State :=
  let (lo, s) := s.memRead addr
  let (hi, s) := s.memRead (addr + 1#16)
  (join16 hi lo, s)

/-- `MemWrite(addr, 2, v)` (R7): low byte first. -/
def State.memWrite16 (s : State) (addr v : Word) : State :=
  (s.memWrite addr (lo8 v)).memWrite (addr + 1#16) (hi8 v)

/-- `Push16(v)` (R7): the high byte first, at the higher address. -/
def State.push16 (s : State) (v : Word) : State :=
  let s := s.setSp (s.sp - 1#16)
  let s := s.memWrite s.sp (hi8 v)
  let s := s.setSp (s.sp - 1#16)
  s.memWrite s.sp (lo8 v)

/-- `Pop16()` (R7). -/
def State.pop16 (s : State) : Word × State :=
  let (lo, s) := s.memRead s.sp
  let s := s.setSp (s.sp + 1#16)
  let (hi, s) := s.memRead s.sp
  let s := s.setSp (s.sp + 1#16)
  (join16 hi lo, s)

/-! ## The port bus (20_memory.md R61)

What a port read answers is the environment's (93 U13): the next ready answer, else a free value
(log entry 3). -/

/-- The environment's answer to a port read. -/
def State.portAnswer (s : State) : Byte × State :=
  match s.portIn with
  | v :: rest => (v, s.setPortIn rest)
  | [] => (Config.freePortByte s.freeCount, s.setFreeCount (s.freeCount + 1))

/-- `PortRead(port)` (R7). -/
def State.portRead (s : State) (port : Word) : Byte × State :=
  let (v, s) := s.react.portAnswer
  (v, (s.emit (.portRead port v)).tick tPort)

/-- `PortWrite(port, v)` (R7): an output; the device is the environment's. -/
def State.portWrite (s : State) (port : Word) (v : Byte) : State :=
  (s.react.emit (.portWrite port v)).tick tPort

/-! ## Fetching an instruction (30_encoding.md R92, R106, 20_memory.md R70) -/

/-- `Fetch8()`: `v <- MemRead(PC,1); PC <- PC+1` (R7), with its charge. -/
def State.fetchByte (s : State) (charge : Nat) : Byte × State :=
  let (v, s) := s.busRead s.pc
  (v, (s.setPc (s.pc + 1#16)).tick charge)

/-- `FetchOp()`: an opcode or prefix byte (R7). -/
def State.fetchOp (s : State) : Byte × State :=
  let (v, s) := s.fetchByte tFetchOp
  (v, s.incR)

/-- One action of the fetch of an instruction after its opcode bytes. -/
inductive FetchAct where
  /-- `Fetch8()`: a displacement, immediate or address byte. -/
  | operand
  /-- An internal charge between or after the fetches (R471). -/
  | idle (n : Nat)
  deriving DecidableEq, Repr

/-- The internal charge before the displacement read of `DJNZ` (R471). -/
def djnzIdle : Instr → List FetchAct
  | .djnz _ => [.idle 1]
  | _ => []

/-- What follows the opcode bytes of an instruction: the bytes its format lists (R90), with the internal charges
R471 places among them. The dispatcher fetches the last two bytes of a DD CB or FD CB instruction itself. -/
def operandActs (i : Instr) : List FetchAct :=
  match i.format with
  | .m | .cb | .ed | .xy | .xycb => []
  | .mN | .xyN => [.operand]
  | .mE => djnzIdle i ++ [.operand]
  | .mNn | .edNn | .xyNn => [.operand, .operand]
  | .xyD => [.operand, .idle 5]
  | .xyDN => [.operand, .idle 2, .operand]

/-- Perform them: the operand bytes in order, and the state after them. -/
def State.fetchActs (s : State) : List FetchAct → List Byte × State
  | [] => ([], s)
  | .operand :: l =>
    let (v, s) := s.fetchByte tMem
    let (bs, s) := s.fetchActs l
    (v :: bs, s)
  | .idle n :: l => (s.tick n).fetchActs l

/-- The opcode bytes `ops` and the operand bytes after them; none where `ops` has no handler. -/
def State.fetchOperands (s : State) (ops : List Byte) : List Byte × State :=
  match decode (Window.ofList ops) with
  | .error _ => (ops, s)
  | .ok k =>
    let (bs, s) := s.fetchActs (operandActs k.instr)
    (ops ++ bs, s)

/-- Fetch one instruction, or the bytes up to a decode fault: each byte is read when the dispatcher or the
handler asks for it (R70). -/
def State.fetch (s : State) : List Byte × State :=
  let (b0, s) := s.fetchOp
  if b0 = 0xCB#8 ∨ b0 = 0xED#8 ∨ b0 = 0xDD#8 ∨ b0 = 0xFD#8 then
    let (b1, s) := s.fetchOp
    if (b0 = 0xDD#8 ∨ b0 = 0xFD#8) ∧ b1 = 0xCB#8 then
      let (d, s) := s.fetchByte tMem
      let (op, s) := s.fetchByte tFinalByte
      ([b0, b1, d, op], s)
    else s.fetchOperands [b0, b1]
  else s.fetchOperands [b0]

/-- The idle step of a halted core (45_general_control.md R269). -/
def State.idle (s : State) : State := s.incR.tick 4

/-! ## Entering and leaving a handler (60_exceptions.md R410 to R414) -/

/-- What both interrupt services do: leave the halted state, count in R, set the flip-flops, push PC and go
to the handler, whose address `target` is found after the pushes (R410, R411). -/
def State.enterHandler (s : State) (iff1 iff2 : Bool) (charge : Nat) (target : State → Word × State) :
    State :=
  let s := (((s.setHalted false).incR.setIff1 iff1).setIff2 iff2).tick charge
  let s := s.push16 s.pc
  let (v, s) := target s
  (s.setPc v).setWz v

/-- Non-maskable service (R410; R404: both non-maskable bits are cleared). -/
def State.serviceNmi (s : State) : State :=
  let dbg := s.req.nmiDebug
  let s := s.setReq { s.req with nmiDebug := false, nmiOther := false }
  let s := s.enterHandler false s.iff1 5 (fun t => (Config.nmiVector, t))
  if dbg then s.emit .debugNmiActivated else s

/-- `Mode2Vector()` (R412): two reads from `I:IM2_LOW` and the next address. -/
def State.mode2Vector (s : State) : Word × State := s.memRead16 (join16 s.i Config.im2Low)

/-- Where maskable service goes, by interrupt mode (R411). -/
def State.irqTarget (s : State) : Word × State :=
  match s.im with
  | .im0 => (Config.irqVector, s)
  | .im1 => (Config.irqVector, s)
  | .im2 => s.mode2Vector

/-- Maskable service (R411); the request bits stay (R403). -/
def State.serviceIrq (s : State) : State := s.enterHandler false false 7 State.irqTarget

/-- Reset service (R413): control state only. -/
def State.serviceReset (s : State) : State :=
  let s := (s.setIff1 false).setIff2 false
  let s := s.setPc 0x0000#16
  let s := (s.setI 0x00#8).setR 0x00#8
  let s := (s.setIm .im0).setReq Req.empty
  let s := (s.setHalted false).setIrqDelay false
  s.tick 3

/-- `Boundary()` (R421): the delay is consumed; at most one class of request is serviced, reset before
non-maskable before maskable. -/
def State.boundary (s : State) : State :=
  let d := s.irqDelay
  let s := s.setIrqDelay false
  if s.req.reset then s.serviceReset
  else if s.req.nmiDebug || s.req.nmiOther then s.serviceNmi
  else if (s.req.irqA || s.req.irqB) && s.iff1 && !d then s.serviceIrq
  else s

/-- The return from a handler (R414): `PC <- Pop16(); WZ <- PC; IFF1 <- IFF2` (48_jump_call_return.md R333). -/
def State.returnFromHandler (s : State) : State :=
  let (v, s) := s.pop16
  let s := (s.setPc v).setWz v
  s.setIff1 s.iff2

end Sys2Proof.Machine
end

