-- ==== Sys2Proof/Machine/Operands.lean ====
section
/-! DEFINITION. The operand forms: register selection (30_encoding.md R95), conditions (R94), the indexed
address (41_load_8bit.md R170), and the shapes "operate on the byte at an address" that the families share. -/

namespace Sys2Proof.Machine

/-! ## Registers -/

/-- Read `r8[i]`. -/
def State.r8 (s : State) : Reg8 → Byte
  | .b => s.b
  | .c => s.c
  | .d => s.d
  | .e => s.e
  | .h => s.h
  | .l => s.l
  | .a => s.a

/-- Write `r8[i]`. -/
def State.setR8 (s : State) (r : Reg8) (v : Byte) : State :=
  match r with
  | .b => s.setB v
  | .c => s.setC v
  | .d => s.setD v
  | .e => s.setE v
  | .h => s.setH v
  | .l => s.setL v
  | .a => s.setA v

/-- Read `rp[p]`. -/
def State.rp (s : State) : Rp → Word
  | .bc => s.bc
  | .de => s.de
  | .hl => s.hl
  | .sp => s.sp

/-- Write `rp[p]`. -/
def State.setRp (s : State) (p : Rp) (v : Word) : State :=
  match p with
  | .bc => s.setBc v
  | .de => s.setDe v
  | .hl => s.setHl v
  | .sp => s.setSp v

/-- Read `rp2[p]`. -/
def State.rp2 (s : State) : Rp2 → Word
  | .bc => s.bc
  | .de => s.de
  | .hl => s.hl
  | .af => s.af

/-- Write `rp2[p]`. -/
def State.setRp2 (s : State) (p : Rp2) (v : Word) : State :=
  match p with
  | .bc => s.setBc v
  | .de => s.setDe v
  | .hl => s.setHl v
  | .af => s.setAf v

/-- Read the index register `XY`. -/
def State.xy (s : State) : Idx → Word
  | .ix => s.ix
  | .iy => s.iy

/-- Write the index register `XY`. -/
def State.setXy (s : State) (x : Idx) (v : Word) : State :=
  match x with
  | .ix => s.setIx v
  | .iy => s.setIy v

/-- Read `XYH` or `XYL`. -/
def State.half (s : State) (x : Idx) : Half → Byte
  | .high => hi8 (s.xy x)
  | .low => lo8 (s.xy x)

/-- Write `XYH` or `XYL`; the other half keeps its value (10_state.md R21). -/
def State.setHalf (s : State) (x : Idx) (hf : Half) (v : Byte) : State :=
  match hf with
  | .high => s.setXy x (join16 v (lo8 (s.xy x)))
  | .low => s.setXy x (join16 (hi8 (s.xy x)) v)

/-- Read `p8[i]`. -/
def State.p8 (s : State) (x : Idx) : Reg8X → Byte
  | .b => s.b
  | .c => s.c
  | .d => s.d
  | .e => s.e
  | .xh => s.half x .high
  | .xl => s.half x .low
  | .a => s.a

/-- Write `p8[i]`. -/
def State.setP8 (s : State) (x : Idx) (p : Reg8X) (v : Byte) : State :=
  match p with
  | .b => s.setB v
  | .c => s.setC v
  | .d => s.setD v
  | .e => s.setE v
  | .xh => s.setHalf x .high v
  | .xl => s.setHalf x .low v
  | .a => s.setA v

/-- Read `pp[p]` of the index register `x` (46_arith_16bit.md R283). -/
def State.rpX (s : State) (x : Idx) : RpX → Word
  | .bc => s.bc
  | .de => s.de
  | .xy => s.xy x
  | .sp => s.sp

/-! ## Conditions (30_encoding.md R94) -/

/-- `cc[i]`. -/
def State.cond (s : State) : Cond → Bool
  | .nz => !flagZ s.f
  | .z => flagZ s.f
  | .nc => !flagC s.f
  | .c => flagC s.f
  | .po => !flagP s.f
  | .pe => flagP s.f
  | .p => !flagS s.f
  | .m => flagS s.f

/-- `cc[i]` for the four conditions of `JR`. -/
def State.condJr (s : State) : CondJr → Bool
  | .nz => !flagZ s.f
  | .z => flagZ s.f
  | .nc => !flagC s.f
  | .c => flagC s.f

/-! ## Memory operands -/

/-- The indexed address `XY + sext_8(d)` (R97). -/
def State.xydAddr (s : State) (x : Idx) (d : Byte) : Word := s.xy x + sext8 d

/-- `IDX()` (41_load_8bit.md R170), its displacement byte already fetched: the address, put in WZ. The DD CB
and FD CB forms compute it the same way (47_rotate_shift_bit.md R307). -/
def State.idx (s : State) (x : Idx) (d : Byte) : Word × State :=
  (s.xydAddr x d, s.setWz (s.xydAddr x d))

/-- Read the byte at an address and continue with it. -/
def State.useByte (s : State) (addr : Word) (k : Byte → State → State) : State :=
  let (v, s) := s.memRead addr
  k v s

/-- Read the byte at an address, compute a new byte and a new state from it, charge the one T-state between
read and write (70_reset_and_hazards.md R471), write the new byte back to the same address. -/
def State.modifyByte (s : State) (addr : Word) (k : Byte → State → Byte × State) : State :=
  let (v, s) := s.memRead addr
  let (r, s) := k v s
  (s.tick 1).memWrite addr r

/-- The same, handing the byte written to a continuation (the register copy of 47_rotate_shift_bit.md R307). -/
def State.modifyByteCopy (s : State) (addr : Word) (k : Byte → State → Byte × State) (r : Reg8) : State :=
  let (v, s) := s.memRead addr
  let (w, s) := k v s
  ((s.tick 1).memWrite addr w).setR8 r w

/-! ## Direction of the block instructions (43_exchange_block.md, 49_input_output.md) -/

/-- Whether a block instruction moves its pointers up (`LDI` and its kin) or down (`LDD` and its kin). -/
inductive Dir where
  | up | down
  deriving DecidableEq, Repr

/-- The step of a 16-bit pointer, modulo 65536. -/
def Dir.step16 : Dir → Word
  | .up => 1#16
  | .down => 0xFFFF#16

/-- The step of an 8-bit register, modulo 256. -/
def Dir.step8 : Dir → Byte
  | .up => 1#8
  | .down => 0xFF#8

/-- The repeat of a block instruction: PC back to its first byte (43_exchange_block.md R226, D22). -/
def State.repeatBlock (s : State) : State := (s.tick 5).setPc (s.pc - 2#16)

end Sys2Proof.Machine
end

