-- ==== Sys2Proof/Machine/Alu8.lean ====
section
/-! DEFINITION. The 8-bit arithmetic and logic group (44_arith_logic_8bit.md R240 to R256): eight accumulator
operations, each with the operand forms of R240, and increment and decrement. -/

namespace Sys2Proof.Machine

/-! ## The accumulator operations on an operand value -/

/-- `(A, F) <- rf`. -/
def State.setAccF (s : State) (rf : Byte × Byte) : State := (s.setA rf.1).setF rf.2

/-- `ADD A,s` (R241). -/
def State.accAdd (v : Byte) (s : State) : State := s.setAccF (add8 s.a v false)

/-- `ADC A,s` (R242). -/
def State.accAdc (v : Byte) (s : State) : State := s.setAccF (add8 s.a v (flagC s.f))

/-- `SUB s` (R243). -/
def State.accSub (v : Byte) (s : State) : State := s.setAccF (sub8 s.a v false)

/-- `SBC A,s` (R244). -/
def State.accSbc (v : Byte) (s : State) : State := s.setAccF (sub8 s.a v (flagC s.f))

/-- `AND s` (R245). -/
def State.accAnd (v : Byte) (s : State) : State := s.setAccF (and8 s.a v)

/-- `XOR s` (R246). -/
def State.accXor (v : Byte) (s : State) : State := s.setAccF (xor8 s.a v)

/-- `OR s` (R247). -/
def State.accOr (v : Byte) (s : State) : State := s.setAccF (or8 s.a v)

/-- `CP s` (R248): A is not written. -/
def State.accCp (v : Byte) (s : State) : State := s.setF (cp8 s.a v)

/-- The operand form `(XY+d)` (R240): WZ takes the address. -/
def State.useXyd (s : State) (x : Idx) (d : Byte) (k : Byte → State → State) : State :=
  let (addr, s) := s.idx x d
  s.useByte addr k

/-! ## The eight operations in the five forms of R240 -/

/-- `ADD A,r` (R241, R240). -/
def execAddAR (r : Reg8) (s : State) : Result := .next (s.accAdd (s.r8 r))

/-- `ADD A,(HL)` (R241, R240). -/
def execAddAAtHl (s : State) : Result := .next (s.useByte s.hl State.accAdd)

/-- `ADD A,n` (R241, R240). -/
def execAddAN (n : Byte) (s : State) : Result := .next (s.accAdd n)

/-- `ADD A,(XY+d)` (R241, R240). -/
def execAddAAtXyd (x : Idx) (d : Byte) (s : State) : Result := .next (s.useXyd x d State.accAdd)

/-- `ADD A,XYH`, `ADD A,XYL` (R241, R251). -/
def execAddAHalf (x : Idx) (hf : Half) (s : State) : Result := .next (s.accAdd (s.half x hf))

/-- `ADC A,r` (R242, R240). -/
def execAdcAR (r : Reg8) (s : State) : Result := .next (s.accAdc (s.r8 r))

/-- `ADC A,(HL)` (R242, R240). -/
def execAdcAAtHl (s : State) : Result := .next (s.useByte s.hl State.accAdc)

/-- `ADC A,n` (R242, R240). -/
def execAdcAN (n : Byte) (s : State) : Result := .next (s.accAdc n)

/-- `ADC A,(XY+d)` (R242, R240). -/
def execAdcAAtXyd (x : Idx) (d : Byte) (s : State) : Result := .next (s.useXyd x d State.accAdc)

/-- `ADC A,XYH`, `ADC A,XYL` (R242, R251). -/
def execAdcAHalf (x : Idx) (hf : Half) (s : State) : Result := .next (s.accAdc (s.half x hf))

/-- `SUB r` (R243, R240). -/
def execSubR (r : Reg8) (s : State) : Result := .next (s.accSub (s.r8 r))

/-- `SUB (HL)` (R243, R240). -/
def execSubAtHl (s : State) : Result := .next (s.useByte s.hl State.accSub)

/-- `SUB n` (R243, R240). -/
def execSubN (n : Byte) (s : State) : Result := .next (s.accSub n)

/-- `SUB (XY+d)` (R243, R240). -/
def execSubAtXyd (x : Idx) (d : Byte) (s : State) : Result := .next (s.useXyd x d State.accSub)

/-- `SUB XYH`, `SUB XYL` (R243, R251). -/
def execSubHalf (x : Idx) (hf : Half) (s : State) : Result := .next (s.accSub (s.half x hf))

/-- `SBC A,r` (R244, R240). -/
def execSbcAR (r : Reg8) (s : State) : Result := .next (s.accSbc (s.r8 r))

/-- `SBC A,(HL)` (R244, R240). -/
def execSbcAAtHl (s : State) : Result := .next (s.useByte s.hl State.accSbc)

/-- `SBC A,n` (R244, R240). -/
def execSbcAN (n : Byte) (s : State) : Result := .next (s.accSbc n)

/-- `SBC A,(XY+d)` (R244, R240). -/
def execSbcAAtXyd (x : Idx) (d : Byte) (s : State) : Result := .next (s.useXyd x d State.accSbc)

/-- `SBC A,XYH`, `SBC A,XYL` (R244, R251). -/
def execSbcAHalf (x : Idx) (hf : Half) (s : State) : Result := .next (s.accSbc (s.half x hf))

/-- `AND r` (R245, R240). -/
def execAndR (r : Reg8) (s : State) : Result := .next (s.accAnd (s.r8 r))

/-- `AND (HL)` (R245, R240). -/
def execAndAtHl (s : State) : Result := .next (s.useByte s.hl State.accAnd)

/-- `AND n` (R245, R240). -/
def execAndN (n : Byte) (s : State) : Result := .next (s.accAnd n)

/-- `AND (XY+d)` (R245, R240). -/
def execAndAtXyd (x : Idx) (d : Byte) (s : State) : Result := .next (s.useXyd x d State.accAnd)

/-- `AND XYH`, `AND XYL` (R245, R251). -/
def execAndHalf (x : Idx) (hf : Half) (s : State) : Result := .next (s.accAnd (s.half x hf))

/-- `XOR r` (R246, R240). -/
def execXorR (r : Reg8) (s : State) : Result := .next (s.accXor (s.r8 r))

/-- `XOR (HL)` (R246, R240). -/
def execXorAtHl (s : State) : Result := .next (s.useByte s.hl State.accXor)

/-- `XOR n` (R246, R240). -/
def execXorN (n : Byte) (s : State) : Result := .next (s.accXor n)

/-- `XOR (XY+d)` (R246, R240). -/
def execXorAtXyd (x : Idx) (d : Byte) (s : State) : Result := .next (s.useXyd x d State.accXor)

/-- `XOR XYH`, `XOR XYL` (R246, R251). -/
def execXorHalf (x : Idx) (hf : Half) (s : State) : Result := .next (s.accXor (s.half x hf))

/-- `OR r` (R247, R240). -/
def execOrR (r : Reg8) (s : State) : Result := .next (s.accOr (s.r8 r))

/-- `OR (HL)` (R247, R240). -/
def execOrAtHl (s : State) : Result := .next (s.useByte s.hl State.accOr)

/-- `OR n` (R247, R240). -/
def execOrN (n : Byte) (s : State) : Result := .next (s.accOr n)

/-- `OR (XY+d)` (R247, R240). -/
def execOrAtXyd (x : Idx) (d : Byte) (s : State) : Result := .next (s.useXyd x d State.accOr)

/-- `OR XYH`, `OR XYL` (R247, R251). -/
def execOrHalf (x : Idx) (hf : Half) (s : State) : Result := .next (s.accOr (s.half x hf))

/-- `CP r` (R248, R240). -/
def execCpR (r : Reg8) (s : State) : Result := .next (s.accCp (s.r8 r))

/-- `CP (HL)` (R248, R240). -/
def execCpAtHl (s : State) : Result := .next (s.useByte s.hl State.accCp)

/-- `CP n` (R248, R240). -/
def execCpN (n : Byte) (s : State) : Result := .next (s.accCp n)

/-- `CP (XY+d)` (R248, R240). -/
def execCpAtXyd (x : Idx) (d : Byte) (s : State) : Result := .next (s.useXyd x d State.accCp)

/-- `CP XYH`, `CP XYL` (R248, R251). -/
def execCpHalf (x : Idx) (hf : Half) (s : State) : Result := .next (s.accCp (s.half x hf))

/-! ## Increment and decrement -/

/-- `(v, F) <- INC8(v, F)`, giving the new byte and the state with the new flags. -/
def State.incByte (v : Byte) (s : State) : Byte × State := ((inc8 v s.f).1, s.setF (inc8 v s.f).2)

/-- `(v, F) <- DEC8(v, F)`, giving the new byte and the state with the new flags. -/
def State.decByte (v : Byte) (s : State) : Byte × State := ((dec8 v s.f).1, s.setF (dec8 v s.f).2)

/-- `INC r` (R249). -/
def execIncR (r : Reg8) (s : State) : Result :=
  let (v, s) := s.incByte (s.r8 r)
  .next (s.setR8 r v)

/-- `INC (HL)` (R250). -/
def execIncAtHl (s : State) : Result := .next (s.modifyByte s.hl State.incByte)

/-- `INC (XY+d)` (R252). -/
def execIncAtXyd (x : Idx) (d : Byte) (s : State) : Result :=
  let (addr, s) := s.idx x d
  .next (s.modifyByte addr State.incByte)

/-- `DEC r` (R253). -/
def execDecR (r : Reg8) (s : State) : Result :=
  let (v, s) := s.decByte (s.r8 r)
  .next (s.setR8 r v)

/-- `DEC (HL)` (R254). -/
def execDecAtHl (s : State) : Result := .next (s.modifyByte s.hl State.decByte)

/-- `DEC (XY+d)` (R255). -/
def execDecAtXyd (x : Idx) (d : Byte) (s : State) : Result :=
  let (addr, s) := s.idx x d
  .next (s.modifyByte addr State.decByte)

/-- `INC` of an index half (R256): the other half is not carried into. -/
def State.incHalf (s : State) (x : Idx) (hf : Half) : State :=
  let (v, s) := s.incByte (s.half x hf)
  s.setHalf x hf v

/-- `DEC` of an index half (R256). -/
def State.decHalf (s : State) (x : Idx) (hf : Half) : State :=
  let (v, s) := s.decByte (s.half x hf)
  s.setHalf x hf v

/-- `INC XYH` (R256). -/
def execIncXyh (x : Idx) (s : State) : Result := .next (s.incHalf x .high)

/-- `DEC XYH` (R256). -/
def execDecXyh (x : Idx) (s : State) : Result := .next (s.decHalf x .high)

/-- `INC XYL` (R256). -/
def execIncXyl (x : Idx) (s : State) : Result := .next (s.incHalf x .low)

/-- `DEC XYL` (R256). -/
def execDecXyl (x : Idx) (s : State) : Result := .next (s.decHalf x .low)

end Sys2Proof.Machine
end

