-- ==== Sys2Proof/Machine/Arith16.lean ====
section
/-! DEFINITION. The 16-bit arithmetic group (46_arith_16bit.md R280 to R287). -/

namespace Sys2Proof.Machine

/-- The shape of R280 to R282 for HL: `WZ <- HL + 1; (HL, F) <- rf`, after the internal work. -/
def State.hlArith (s : State) (rf : Word × Byte) : State :=
  (((s.tick 7).setWz (s.hl + 1#16)).setHl rf.1).setF rf.2

/-- `ADD HL,ss` (R280). -/
def execAddHlSs (ss : Rp) (s : State) : Result := .next (s.hlArith (add16 s.hl (s.rp ss) s.f))

/-- `ADC HL,ss` (R281). -/
def execAdcHlSs (ss : Rp) (s : State) : Result := .next (s.hlArith (adc16 s.hl (s.rp ss) (flagC s.f)))

/-- `SBC HL,ss` (R282). -/
def execSbcHlSs (ss : Rp) (s : State) : Result := .next (s.hlArith (sbc16 s.hl (s.rp ss) (flagC s.f)))

/-- `ADD XY,pp` (R283). -/
def execAddXyPp (x : Idx) (pp : RpX) (s : State) : Result :=
  let rf := add16 (s.xy x) (s.rpX x pp) s.f
  .next ((((s.tick 7).setWz (s.xy x + 1#16)).setXy x rf.1).setF rf.2)

/-- `INC ss` (R284). -/
def execIncSs (ss : Rp) (s : State) : Result := .next ((s.tick 2).setRp ss (s.rp ss + 1#16))

/-- `INC XY` (R285). -/
def execIncXy (x : Idx) (s : State) : Result := .next ((s.tick 2).setXy x (s.xy x + 1#16))

/-- `DEC ss` (R286). -/
def execDecSs (ss : Rp) (s : State) : Result := .next ((s.tick 2).setRp ss (s.rp ss - 1#16))

/-- `DEC XY` (R287). -/
def execDecXy (x : Idx) (s : State) : Result := .next ((s.tick 2).setXy x (s.xy x - 1#16))

end Sys2Proof.Machine
end

