-- ==== Sys2Proof/Machine/Control.lean ====
section
/-! DEFINITION. The general-purpose arithmetic and CPU control group (45_general_control.md R260 to R272). -/

namespace Sys2Proof.Machine

/-- `DAA` (R260). -/
def execDaa (s : State) : Result := .next ((s.setA (daa8 s.a s.f).1).setF (daa8 s.a s.f).2)

/-- `CPL` (R261). -/
def execCpl (s : State) : Result := .next ((s.setA (~~~s.a)).setF (cplF (~~~s.a) s.f))

/-- `(A, F) <- SUB8(0x00, A, 0)` (R262). -/
def State.negA (s : State) : State := (s.setA (sub8 0x00#8 s.a false).1).setF (sub8 0x00#8 s.a false).2

/-- `NEG` (R262). -/
def execNeg (s : State) : Result := .next s.negA

/-- `NEG`, the undocumented encodings (R262); `y` does not change the effect. -/
def execNegY (_y : BitVec 3) (s : State) : Result := .next s.negA

/-- `CCF` (R263). -/
def execCcf (s : State) : Result := .next (s.setF (ccfF s.a s.f))

/-- `SCF` (R264). -/
def execScf (s : State) : Result := .next (s.setF (scfF s.a s.f))

/-- `NOP` (R265): nothing beyond its fetch. -/
def execNop (s : State) : Result := .next s

/-- `NOP` of the ED table (R266): nothing beyond its two fetches. -/
def execNopEd (_q : BitVec 1) (s : State) : Result := .next s

/-- `HALT` (R268). -/
def execHalt (s : State) : Result := .next (s.setHalted true)

/-- `DI` (R270). -/
def execDi (s : State) : Result := .next ((s.setIff1 false).setIff2 false)

/-- `EI` (R271). -/
def execEi (s : State) : Result := .next (((s.setIff1 true).setIff2 true).setIrqDelay true)

/-- `im[y]` (30_encoding.md R94). -/
def imOf (y : BitVec 3) : IntMode :=
  match y.toNat with
  | 2 => .im1
  | 3 => .im2
  | 6 => .im1
  | 7 => .im2
  | _ => .im0

/-- `IM 0` (R272). -/
def execIm0 (s : State) : Result := .next (s.setIm .im0)

/-- `IM 1` (R272). -/
def execIm1 (s : State) : Result := .next (s.setIm .im1)

/-- `IM 2` (R272). -/
def execIm2 (s : State) : Result := .next (s.setIm .im2)

/-- `IM im[y]`, the undocumented encodings (R272, D27). -/
def execImY (y : BitVec 3) (s : State) : Result := .next (s.setIm (imOf y))

end Sys2Proof.Machine
end

