-- ==== Sys2Proof/Machine/Exchange.lean ====
section
/-! DEFINITION. The exchange, block transfer and block search group (43_exchange_block.md R220 to R232). One
execution of a repeating instruction is one iteration (R226, D22). -/

namespace Sys2Proof.Machine

/-! ## Exchanges -/

/-- `EX DE,HL` (R220). -/
def execExDeHl (s : State) : Result := .next ((s.setDe s.hl).setHl s.de)

/-- `EX AF,AF'` (R221). -/
def execExAfAf (s : State) : Result := .next ((s.setAf s.af').setAf' s.af)

/-- `EXX` (R222). -/
def execExx (s : State) : Result :=
  .next ((((((s.setBc s.bc').setDe s.de').setHl s.hl').setBc' s.bc).setDe' s.de).setHl' s.hl)

/-- The bus operations of `EX (SP),HL` and `EX (SP),XY` (R223, R224), `v` being the register's value: read
low, read high, write high, write low; the value read. -/
def State.exAtSp (s : State) (v : Word) : Word × State :=
  let (lo, s) := s.memRead s.sp
  let (hi, s) := s.memRead (s.sp + 1#16)
  let s := (s.tick 1).memWrite (s.sp + 1#16) (hi8 v)
  let s := (s.memWrite s.sp (lo8 v)).tick 2
  (join16 hi lo, s)

/-- `EX (SP),HL` (R223). -/
def execExAtSpHl (s : State) : Result :=
  let (v, s) := s.exAtSp s.hl
  .next ((s.setHl v).setWz v)

/-- `EX (SP),XY` (R224). -/
def execExAtSpXy (x : Idx) (s : State) : Result :=
  let (v, s) := s.exAtSp (s.xy x)
  .next ((s.setXy x v).setWz v)

/-! ## Block transfer -/

/-- One iteration of a block transfer (R225, R227). -/
def State.blockLd (s : State) (dir : Dir) : State :=
  let (t, s) := s.memRead s.hl
  let s := (s.memWrite s.de t).tick 2
  let s := ((s.setHl (s.hl + dir.step16)).setDe (s.de + dir.step16)).setBc (s.bc - 1#16)
  s.setF (ldBlockF s.a t s.f (s.bc != 0#16))

/-- The repeat of a block transfer or search: `PC <- PC - 2; WZ <- PC + 1` (R226). -/
def State.repeatBlockWz (s : State) : State :=
  let s := s.repeatBlock
  s.setWz (s.pc + 1#16)

/-- One iteration of a repeating block transfer (R226, R228). -/
def State.blockLdRepeat (s : State) (dir : Dir) : State :=
  let s := s.blockLd dir
  if s.bc != 0#16 then s.repeatBlockWz else s

/-- `LDI` (R225). -/
def execLdi (s : State) : Result := .next (s.blockLd .up)

/-- `LDIR` (R226). -/
def execLdir (s : State) : Result := .next (s.blockLdRepeat .up)

/-- `LDD` (R227). -/
def execLdd (s : State) : Result := .next (s.blockLd .down)

/-- `LDDR` (R228). -/
def execLddr (s : State) : Result := .next (s.blockLdRepeat .down)

/-! ## Block search -/

/-- One iteration of a block search (R229, R231), with the difference `r`. -/
def State.blockCp (s : State) (dir : Dir) : Byte × State :=
  let (t, s) := s.memRead s.hl
  let s := s.tick 5
  let s := (s.setHl (s.hl + dir.step16)).setBc (s.bc - 1#16)
  let s := s.setF (cpBlockF s.a t s.f (s.bc != 0#16))
  (s.a - t, s.setWz (s.wz + dir.step16))

/-- One iteration of a repeating block search (R230, R232). -/
def State.blockCpRepeat (s : State) (dir : Dir) : State :=
  let (r, s) := s.blockCp dir
  if s.bc != 0#16 && r != 0#8 then s.repeatBlockWz else s

/-- `CPI` (R229). -/
def execCpi (s : State) : Result := .next (s.blockCp .up).2

/-- `CPIR` (R230). -/
def execCpir (s : State) : Result := .next (s.blockCpRepeat .up)

/-- `CPD` (R231). -/
def execCpd (s : State) : Result := .next (s.blockCp .down).2

/-- `CPDR` (R232). -/
def execCpdr (s : State) : Result := .next (s.blockCpRepeat .down)

end Sys2Proof.Machine
end

