-- ==== Sys2Proof/Machine/InOut.lean ====
section
/-! DEFINITION. The input and output group (49_input_output.md R340 to R355). -/

namespace Sys2Proof.Machine

/-! ## Single input and output -/

/-- `IN A,(n)` (R341): port `A:n`, no flag. -/
def execInAN (n : Byte) (s : State) : Result :=
  let port := join16 s.a n
  let (v, s) := s.portRead port
  .next ((s.setA v).setWz (port + 1#16))

/-- `v <- PortRead(BC); WZ <- BC + 1; F <- (F & 0x01) | SZ53P[v]` (R342, R343). -/
def State.inC (s : State) : Byte × State :=
  let port := s.bc
  let (v, s) := s.portRead port
  (v, (s.setWz (port + 1#16)).setF (szpKeepC v s.f))

/-- `IN r,(C)` (R342). -/
def execInRC (r : Reg8) (s : State) : Result :=
  let (v, s) := s.inC
  .next (s.setR8 r v)

/-- `IN F,(C)` (R343): flags only. -/
def execInFC (s : State) : Result := .next s.inC.2

/-- `OUT (n),A` (R344): port `A:n`; WZ's low byte wraps within 8 bits. -/
def execOutNA (n : Byte) (s : State) : Result :=
  .next ((s.portWrite (join16 s.a n) s.a).setWz (join16 s.a (n + 1#8)))

/-- `PortWrite(BC, v); WZ <- BC + 1` (R345, R346). -/
def State.outC (s : State) (v : Byte) : State := (s.portWrite s.bc v).setWz (s.bc + 1#16)

/-- `OUT (C),r` (R345). -/
def execOutCR (r : Reg8) (s : State) : Result := .next (s.outC (s.r8 r))

/-- `OUT (C),0` (R346). -/
def execOutC0 (s : State) : Result := .next (s.outC 0x00#8)

/-! ## Block input and output -/

/-- One iteration of a block input (R348, R350): the port address and WZ use B before the decrement. -/
def State.blockIn (s : State) (dir : Dir) : State :=
  let s := s.tick 1
  let (t, s) := s.portRead s.bc
  let s := s.memWrite s.hl t
  let s := s.setWz (s.bc + dir.step16)
  let s := s.setB (s.b - 1#8)
  let s := s.setHl (s.hl + dir.step16)
  s.setF (ioBlockF t (t.toNat + (s.c + dir.step8).toNat) s.b)

/-- One iteration of a block output (R352, R354): the port address and WZ use B after the decrement. -/
def State.blockOut (s : State) (dir : Dir) : State :=
  let s := s.tick 1
  let (t, s) := s.memRead s.hl
  let s := s.setB (s.b - 1#8)
  let s := s.portWrite s.bc t
  let s := s.setHl (s.hl + dir.step16)
  let s := s.setWz (s.bc + dir.step16)
  s.setF (ioBlockF t (t.toNat + s.l.toNat) s.b)

/-- `if B != 0: PC <- PC - 2` (R349). -/
def State.repeatWhileB (s : State) : State := if s.b != 0#8 then s.repeatBlock else s

/-- `INI` (R348). -/
def execIni (s : State) : Result := .next (s.blockIn .up)

/-- `INIR` (R349). -/
def execInir (s : State) : Result := .next (s.blockIn .up).repeatWhileB

/-- `IND` (R350). -/
def execInd (s : State) : Result := .next (s.blockIn .down)

/-- `INDR` (R351). -/
def execIndr (s : State) : Result := .next (s.blockIn .down).repeatWhileB

/-- `OUTI` (R352). -/
def execOuti (s : State) : Result := .next (s.blockOut .up)

/-- `OTIR` (R353). -/
def execOtir (s : State) : Result := .next (s.blockOut .up).repeatWhileB

/-- `OUTD` (R354). -/
def execOutd (s : State) : Result := .next (s.blockOut .down)

/-- `OTDR` (R355). -/
def execOtdr (s : State) : Result := .next (s.blockOut .down).repeatWhileB

end Sys2Proof.Machine
end

