-- ==== Sys2Proof/Machine/Jump.lean ====
section
/-! DEFINITION. The jump, call and return group (48_jump_call_return.md R320 to R335). PC is already the
address of the next instruction. -/

namespace Sys2Proof.Machine

/-! ## Jumps -/

/-- `JP nn` (R320). -/
def execJpNn (nn : Word) (s : State) : Result := .next ((s.setWz nn).setPc nn)

/-- `JP cc,nn` (R321): WZ takes the operand, taken or not. -/
def execJpCcNn (cc : Cond) (nn : Word) (s : State) : Result :=
  .next (if s.cond cc then (s.setWz nn).setPc nn else s.setWz nn)

/-- `JP (HL)` (R322): nothing is read from memory. -/
def execJpHl (s : State) : Result := .next (s.setPc s.hl)

/-- `JP (XY)` (R325). -/
def execJpXy (x : Idx) (s : State) : Result := .next (s.setPc (s.xy x))

/-- `PC <- PC + sext_8(e); WZ <- PC` (R323). -/
def State.jumpRel (s : State) (e : Byte) : State :=
  let s := (s.tick 5).setPc (s.pc + sext8 e)
  s.setWz s.pc

/-- `JR e` (R323). -/
def execJr (e : Byte) (s : State) : Result := .next (s.jumpRel e)

/-- `JR cc,e` (R324). -/
def execJrCc (cc : CondJr) (e : Byte) (s : State) : Result :=
  .next (if s.condJr cc then s.jumpRel e else s)

/-- `DJNZ e` (R326). -/
def execDjnz (e : Byte) (s : State) : Result :=
  let s := s.setB (s.b - 1#8)
  .next (if s.b != 0#8 then s.jumpRel e else s)

/-! ## Calls and restarts -/

/-- `Push16(PC); PC <- target; WZ <- target` (R327, R335). -/
def State.call (s : State) (target : Word) : State :=
  (((s.tick 1).push16 s.pc).setPc target).setWz target

/-- `CALL nn` (R327). -/
def execCallNn (nn : Word) (s : State) : Result := .next (s.call nn)

/-- `CALL cc,nn` (R328): WZ takes the operand either way. -/
def execCallCcNn (cc : Cond) (nn : Word) (s : State) : Result :=
  .next (if s.cond cc then s.call nn else s.setWz nn)

/-- `RST p` (R335): the target is `y * 8`. -/
def execRstP (t : BitVec 3) (s : State) : Result := .next (s.call (BitVec.ofNat 16 (t.toNat * 8)))

/-! ## Returns -/

/-- `PC <- Pop16(); WZ <- PC` (R329). -/
def State.popPc (s : State) : State :=
  let (v, s) := s.pop16
  (s.setPc v).setWz v

/-- `RET` (R329). -/
def execRet (s : State) : Result := .next s.popPc

/-- `RET cc` (R330). -/
def execRetCc (cc : Cond) (s : State) : Result :=
  let s := s.tick 1
  .next (if s.cond cc then s.popPc else s)

/-- `RETN` (R333). -/
def execRetn (s : State) : Result := .next s.returnFromHandler

/-- `RETN`, the undocumented encodings (R333, D11); `y` does not change the effect. -/
def execRetnY (_y : BitVec 3) (s : State) : Result := .next s.returnFromHandler

/-- `RETI` (R334, D11). -/
def execReti (s : State) : Result := .next s.returnFromHandler

end Sys2Proof.Machine
end

