-- ==== Sys2Proof/Machine/Load16.lean ====
section
/-! DEFINITION. The 16-bit load group, PUSH and POP (42_load_16bit.md R200 to R213). -/

namespace Sys2Proof.Machine

/-- `LD dd,nn` (R200). -/
def execLdDdNn (dd : Rp) (nn : Word) (s : State) : Result := .next (s.setRp dd nn)

/-- `LD XY,nn` (R201). -/
def execLdXyNn (x : Idx) (nn : Word) (s : State) : Result := .next (s.setXy x nn)

/-- `LD HL,(nn)` (R202). -/
def execLdHlAtNn (nn : Word) (s : State) : Result :=
  let (v, s) := s.memRead16 nn
  .next ((s.setHl v).setWz (nn + 1#16))

/-- `LD dd,(nn)` (R203). -/
def execLdDdAtNn (dd : Rp) (nn : Word) (s : State) : Result :=
  let (v, s) := s.memRead16 nn
  .next ((s.setRp dd v).setWz (nn + 1#16))

/-- `LD XY,(nn)` (R204). -/
def execLdXyAtNn (x : Idx) (nn : Word) (s : State) : Result :=
  let (v, s) := s.memRead16 nn
  .next ((s.setXy x v).setWz (nn + 1#16))

/-- `LD (nn),HL` (R205). -/
def execLdAtNnHl (nn : Word) (s : State) : Result :=
  .next ((s.memWrite16 nn s.hl).setWz (nn + 1#16))

/-- `LD (nn),dd` (R206). -/
def execLdAtNnDd (nn : Word) (dd : Rp) (s : State) : Result :=
  .next ((s.memWrite16 nn (s.rp dd)).setWz (nn + 1#16))

/-- `LD (nn),XY` (R207). -/
def execLdAtNnXy (nn : Word) (x : Idx) (s : State) : Result :=
  .next ((s.memWrite16 nn (s.xy x)).setWz (nn + 1#16))

/-- `LD SP,HL` (R208). -/
def execLdSpHl (s : State) : Result := .next ((s.tick 2).setSp s.hl)

/-- `LD SP,XY` (R209). -/
def execLdSpXy (x : Idx) (s : State) : Result := .next ((s.tick 2).setSp (s.xy x))

/-- `PUSH qq` (R210). -/
def execPushQq (qq : Rp2) (s : State) : Result := .next ((s.tick 1).push16 (s.rp2 qq))

/-- `PUSH XY` (R211). -/
def execPushXy (x : Idx) (s : State) : Result := .next ((s.tick 1).push16 (s.xy x))

/-- `POP qq` (R212); `POP AF` loads all eight bits of F. -/
def execPopQq (qq : Rp2) (s : State) : Result :=
  let (v, s) := s.pop16
  .next (s.setRp2 qq v)

/-- `POP XY` (R213). -/
def execPopXy (x : Idx) (s : State) : Result :=
  let (v, s) := s.pop16
  .next (s.setXy x v)

end Sys2Proof.Machine
end

