-- ==== Sys2Proof/Machine/Load8.lean ====
section
/-! DEFINITION. The 8-bit load group (41_load_8bit.md R170 to R190). A meaning starts after the fetch of all
bytes of the instruction: PC is the address of the next one. -/

namespace Sys2Proof.Machine

/-- `LD r,r'` (R171). -/
def execLdRR (r r' : Reg8) (s : State) : Result := .next (s.setR8 r (s.r8 r'))

/-- `LD r,n` (R172). -/
def execLdRN (r : Reg8) (n : Byte) (s : State) : Result := .next (s.setR8 r n)

/-- `LD r,(HL)` (R173). -/
def execLdRAtHl (r : Reg8) (s : State) : Result := .next (s.useByte s.hl fun v s => s.setR8 r v)

/-- `LD r,(XY+d)` (R174). -/
def execLdRAtXyd (r : Reg8) (x : Idx) (d : Byte) (s : State) : Result :=
  let (addr, s) := s.idx x d
  .next (s.useByte addr fun v s => s.setR8 r v)

/-- `LD (HL),r` (R175). -/
def execLdAtHlR (r : Reg8) (s : State) : Result := .next (s.memWrite s.hl (s.r8 r))

/-- `LD (XY+d),r` (R176). -/
def execLdAtXydR (x : Idx) (d : Byte) (r : Reg8) (s : State) : Result :=
  let (addr, s) := s.idx x d
  .next (s.memWrite addr (s.r8 r))

/-- `LD (HL),n` (R177). -/
def execLdAtHlN (n : Byte) (s : State) : Result := .next (s.memWrite s.hl n)

/-- `LD (XY+d),n` (R178). -/
def execLdAtXydN (x : Idx) (d n : Byte) (s : State) : Result :=
  let (addr, s) := s.idx x d
  .next (s.memWrite addr n)

/-- `A <- MemRead(addr, 1); WZ <- addr + 1`: the shape of R179, R180, R186. -/
def State.loadA (s : State) (addr : Word) : State :=
  (s.useByte addr fun v s => s.setA v).setWz (addr + 1#16)

/-- `LD A,(BC)` (R179). -/
def execLdAAtBc (s : State) : Result := .next (s.loadA s.bc)

/-- `LD A,(DE)` (R180). -/
def execLdAAtDe (s : State) : Result := .next (s.loadA s.de)

/-- `LD A,(nn)` (R186). -/
def execLdAAtNn (nn : Word) (s : State) : Result := .next (s.loadA nn)

/-- `MemWrite(addr, 1, A); Z <- (addr + 1)[7:0]; W <- A`: the shape of R187, R188, R189. -/
def State.storeA (s : State) (addr : Word) : State :=
  (s.memWrite addr s.a).setWz (join16 s.a (lo8 addr + 1#8))

/-- `LD (BC),A` (R187). -/
def execLdAtBcA (s : State) : Result := .next (s.storeA s.bc)

/-- `LD (DE),A` (R188). -/
def execLdAtDeA (s : State) : Result := .next (s.storeA s.de)

/-- `LD (nn),A` (R189). -/
def execLdAtNnA (nn : Word) (s : State) : Result := .next (s.storeA nn)

/-- `A <- v` with the flags of R181 and R182. -/
def State.loadAir (s : State) (v : Byte) : State :=
  ((s.tick 1).setA v).setF (ldAirF v s.f s.iff2)

/-- `LD A,I` (R181). -/
def execLdAI (s : State) : Result := .next (s.loadAir s.i)

/-- `LD A,R` (R182): R already counts this instruction's own two opcode fetches. -/
def execLdAR (s : State) : Result := .next (s.loadAir s.r)

/-- `LD I,A` (R183). -/
def execLdIA (s : State) : Result := .next ((s.tick 1).setI s.a)

/-- `LD R,A` (R184): all eight bits. -/
def execLdRA (s : State) : Result := .next ((s.tick 1).setR s.a)

/-- `LD p,p'` with an index half as destination (R185). -/
def execLdHalfP (x : Idx) (hf : Half) (p : Reg8X) (s : State) : Result :=
  .next (s.setHalf x hf (s.p8 x p))

/-- `LD p,p'` with an index half as source (R185). -/
def execLdPHalf (x : Idx) (p : Reg8X) (hf : Half) (s : State) : Result :=
  .next (s.setP8 x p (s.half x hf))

/-- `LD XYH,n` (R190). -/
def execLdXyhN (x : Idx) (n : Byte) (s : State) : Result := .next (s.setHalf x .high n)

/-- `LD XYL,n` (R190). -/
def execLdXylN (x : Idx) (n : Byte) (s : State) : Result := .next (s.setHalf x .low n)

end Sys2Proof.Machine
end

