-- ==== Sys2Proof/Machine/Rotate.lean ====
section
/-! DEFINITION. The rotate, shift and bit group (47_rotate_shift_bit.md R290 to R314). -/

namespace Sys2Proof.Machine

/-! ## Accumulator rotates -/

/-- `(r, c) <- ROT8(k, A, CF); A <- r; F <- (F & 0xC4) | (r & 0x28) | c` (R290 to R293). -/
def State.rotAcc (s : State) (k : Rot) : State :=
  let (r, c) := rot8 k s.a (flagC s.f)
  (s.setA r).setF (rotAF r c s.f)

/-- `RLCA` (R290). -/
def execRlca (s : State) : Result := .next (s.rotAcc .rlc)

/-- `RRCA` (R291). -/
def execRrca (s : State) : Result := .next (s.rotAcc .rrc)

/-- `RLA` (R292). -/
def execRla (s : State) : Result := .next (s.rotAcc .rl)

/-- `RRA` (R293). -/
def execRra (s : State) : Result := .next (s.rotAcc .rr)

/-! ## Rotates and shifts: operation and forms -/

/-- `(r, c) <- ROT8(k, v, CF); F <- SZ53P[r] | c`: the new byte and the state with the new flags. -/
def State.rotByte (k : Rot) (v : Byte) (s : State) : Byte × State :=
  let (r, c) := rot8 k v (flagC s.f)
  (r, s.setF (rotF r c))

/-- The form `r` (R294). -/
def State.rotReg (s : State) (k : Rot) (r : Reg8) : State :=
  let (v, s) := s.rotByte k (s.r8 r)
  s.setR8 r v

/-- The form `(HL)` (R294). -/
def State.rotAtHl (s : State) (k : Rot) : State := s.modifyByte s.hl (State.rotByte k)

/-- The form `(XY+d)` (R307). -/
def State.rotAtXyd (s : State) (k : Rot) (x : Idx) (d : Byte) : State :=
  let (addr, s) := s.idx x d
  s.modifyByte addr (State.rotByte k)

/-- The form `(XY+d),r` (R307): the result is also copied to a register. -/
def State.rotAtXydR (s : State) (k : Rot) (x : Idx) (d : Byte) (r : Reg8) : State :=
  let (addr, s) := s.idx x d
  s.modifyByteCopy addr (State.rotByte k) r

/-- `RLC r` (R295, R294). -/
def execRlcR (r : Reg8) (s : State) : Result := .next (s.rotReg .rlc r)

/-- `RLC (HL)` (R295, R294). -/
def execRlcAtHl (s : State) : Result := .next (s.rotAtHl .rlc)

/-- `RLC (XY+d)` (R295, R307). -/
def execRlcAtXyd (x : Idx) (d : Byte) (s : State) : Result := .next (s.rotAtXyd .rlc x d)

/-- `RLC (XY+d),r` (R295, R307). -/
def execRlcAtXydR (x : Idx) (d : Byte) (r : Reg8) (s : State) : Result := .next (s.rotAtXydR .rlc x d r)

/-- `RRC r` (R296, R294). -/
def execRrcR (r : Reg8) (s : State) : Result := .next (s.rotReg .rrc r)

/-- `RRC (HL)` (R296, R294). -/
def execRrcAtHl (s : State) : Result := .next (s.rotAtHl .rrc)

/-- `RRC (XY+d)` (R296, R307). -/
def execRrcAtXyd (x : Idx) (d : Byte) (s : State) : Result := .next (s.rotAtXyd .rrc x d)

/-- `RRC (XY+d),r` (R296, R307). -/
def execRrcAtXydR (x : Idx) (d : Byte) (r : Reg8) (s : State) : Result := .next (s.rotAtXydR .rrc x d r)

/-- `RL r` (R297, R294). -/
def execRlR (r : Reg8) (s : State) : Result := .next (s.rotReg .rl r)

/-- `RL (HL)` (R297, R294). -/
def execRlAtHl (s : State) : Result := .next (s.rotAtHl .rl)

/-- `RL (XY+d)` (R297, R307). -/
def execRlAtXyd (x : Idx) (d : Byte) (s : State) : Result := .next (s.rotAtXyd .rl x d)

/-- `RL (XY+d),r` (R297, R307). -/
def execRlAtXydR (x : Idx) (d : Byte) (r : Reg8) (s : State) : Result := .next (s.rotAtXydR .rl x d r)

/-- `RR r` (R298, R294). -/
def execRrR (r : Reg8) (s : State) : Result := .next (s.rotReg .rr r)

/-- `RR (HL)` (R298, R294). -/
def execRrAtHl (s : State) : Result := .next (s.rotAtHl .rr)

/-- `RR (XY+d)` (R298, R307). -/
def execRrAtXyd (x : Idx) (d : Byte) (s : State) : Result := .next (s.rotAtXyd .rr x d)

/-- `RR (XY+d),r` (R298, R307). -/
def execRrAtXydR (x : Idx) (d : Byte) (r : Reg8) (s : State) : Result := .next (s.rotAtXydR .rr x d r)

/-- `SLA r` (R299, R294). -/
def execSlaR (r : Reg8) (s : State) : Result := .next (s.rotReg .sla r)

/-- `SLA (HL)` (R299, R294). -/
def execSlaAtHl (s : State) : Result := .next (s.rotAtHl .sla)

/-- `SLA (XY+d)` (R299, R307). -/
def execSlaAtXyd (x : Idx) (d : Byte) (s : State) : Result := .next (s.rotAtXyd .sla x d)

/-- `SLA (XY+d),r` (R299, R307). -/
def execSlaAtXydR (x : Idx) (d : Byte) (r : Reg8) (s : State) : Result := .next (s.rotAtXydR .sla x d r)

/-- `SRA r` (R300, R294). -/
def execSraR (r : Reg8) (s : State) : Result := .next (s.rotReg .sra r)

/-- `SRA (HL)` (R300, R294). -/
def execSraAtHl (s : State) : Result := .next (s.rotAtHl .sra)

/-- `SRA (XY+d)` (R300, R307). -/
def execSraAtXyd (x : Idx) (d : Byte) (s : State) : Result := .next (s.rotAtXyd .sra x d)

/-- `SRA (XY+d),r` (R300, R307). -/
def execSraAtXydR (x : Idx) (d : Byte) (r : Reg8) (s : State) : Result := .next (s.rotAtXydR .sra x d r)

/-- `SLL r` (R301, R294). -/
def execSllR (r : Reg8) (s : State) : Result := .next (s.rotReg .sll r)

/-- `SLL (HL)` (R301, R294). -/
def execSllAtHl (s : State) : Result := .next (s.rotAtHl .sll)

/-- `SLL (XY+d)` (R301, R307). -/
def execSllAtXyd (x : Idx) (d : Byte) (s : State) : Result := .next (s.rotAtXyd .sll x d)

/-- `SLL (XY+d),r` (R301, R307). -/
def execSllAtXydR (x : Idx) (d : Byte) (r : Reg8) (s : State) : Result := .next (s.rotAtXydR .sll x d r)

/-- `SRL r` (R302, R294). -/
def execSrlR (r : Reg8) (s : State) : Result := .next (s.rotReg .srl r)

/-- `SRL (HL)` (R302, R294). -/
def execSrlAtHl (s : State) : Result := .next (s.rotAtHl .srl)

/-- `SRL (XY+d)` (R302, R307). -/
def execSrlAtXyd (x : Idx) (d : Byte) (s : State) : Result := .next (s.rotAtXyd .srl x d)

/-- `SRL (XY+d),r` (R302, R307). -/
def execSrlAtXydR (x : Idx) (d : Byte) (r : Reg8) (s : State) : Result := .next (s.rotAtXydR .srl x d r)

/-! ## Digit rotates -/

/-- `RLD` (R305). -/
def execRld (s : State) : Result :=
  let (t, s) := s.memRead s.hl
  let s := (s.tick 4).memWrite s.hl ((t <<< 4) ||| (s.a &&& 0x0F#8))
  let s := s.setA ((s.a &&& 0xF0#8) ||| (t >>> 4))
  .next ((s.setF (szpKeepC s.a s.f)).setWz (s.hl + 1#16))

/-- `RRD` (R306). -/
def execRrd (s : State) : Result :=
  let (t, s) := s.memRead s.hl
  let s := (s.tick 4).memWrite s.hl ((s.a <<< 4) ||| (t >>> 4))
  let s := s.setA ((s.a &&& 0xF0#8) ||| (t &&& 0x0F#8))
  .next ((s.setF (szpKeepC s.a s.f)).setWz (s.hl + 1#16))

/-! ## Bit test -/

/-- Test a bit of the byte at an address, bits 5 and 3 of F from `W` (R310, R311). -/
def State.testByte (s : State) (addr : Word) (b : BitNo) : State :=
  s.useByte addr fun v s => (s.tick 1).setF (bitF b v (hi8 s.wz) s.f)

/-- `BIT b,r` (R310). -/
def execBitBR (b : BitNo) (r : Reg8) (s : State) : Result := .next (s.setF (bitF b (s.r8 r) (s.r8 r) s.f))

/-- `BIT b,(HL)` (R310). -/
def execBitBAtHl (b : BitNo) (s : State) : Result := .next (s.testByte s.hl b)

/-- `WZ <- addr`, then the test of the byte at `addr` (R311). -/
def State.testXyd (s : State) (b : BitNo) (x : Idx) (d : Byte) : State :=
  let (addr, s) := s.idx x d
  s.testByte addr b

/-- `BIT b,(XY+d)` (R311). -/
def execBitBAtXyd (b : BitNo) (x : Idx) (d : Byte) (s : State) : Result := .next (s.testXyd b x d)

/-- `BIT b,(XY+d)`, the undocumented encodings (R311, D38): `z` names no register here. -/
def execBitBAtXydZ (b : BitNo) (x : Idx) (d : Byte) (_z : BitVec 3) (s : State) : Result :=
  .next (s.testXyd b x d)

/-! ## Bit set and reset -/

/-- `v & ~(1 << b)` (R314), no flag. -/
def State.resBit (b : BitNo) (v : Byte) (s : State) : Byte × State := (v &&& ~~~bitMask b, s)

/-- `v | (1 << b)` (R312), no flag. -/
def State.setBit (b : BitNo) (v : Byte) (s : State) : Byte × State := (v ||| bitMask b, s)

/-- `RES b,r` (R314). -/
def execResBR (b : BitNo) (r : Reg8) (s : State) : Result := .next (s.setR8 r (s.r8 r &&& ~~~bitMask b))

/-- `RES b,(HL)` (R314). -/
def execResBAtHl (b : BitNo) (s : State) : Result := .next (s.modifyByte s.hl (State.resBit b))

/-- `SET b,r` (R312). -/
def execSetBR (b : BitNo) (r : Reg8) (s : State) : Result := .next (s.setR8 r (s.r8 r ||| bitMask b))

/-- `SET b,(HL)` (R312). -/
def execSetBAtHl (b : BitNo) (s : State) : Result := .next (s.modifyByte s.hl (State.setBit b))

/-- `RES b,(XY+d)` (R313). -/
def execResBAtXyd (b : BitNo) (x : Idx) (d : Byte) (s : State) : Result :=
  let (addr, s) := s.idx x d
  .next (s.modifyByte addr (State.resBit b))

/-- `RES b,(XY+d),r` (R313, D38). -/
def execResBAtXydR (b : BitNo) (x : Idx) (d : Byte) (r : Reg8) (s : State) : Result :=
  let (addr, s) := s.idx x d
  .next (s.modifyByteCopy addr (State.resBit b) r)

/-- `SET b,(XY+d)` (R313). -/
def execSetBAtXyd (b : BitNo) (x : Idx) (d : Byte) (s : State) : Result :=
  let (addr, s) := s.idx x d
  .next (s.modifyByte addr (State.setBit b))

/-- `SET b,(XY+d),r` (R313, D38). -/
def execSetBAtXydR (b : BitNo) (x : Idx) (d : Byte) (r : Reg8) (s : State) : Result :=
  let (addr, s) := s.idx x d
  .next (s.modifyByteCopy addr (State.setBit b) r)

end Sys2Proof.Machine
end

