-- ==== Sys2Proof/Machine/Dispatch.lean ====
section
/-! DEFINITION. The dispatch: one arm for each constructor of `Instr`, each one direct call of a meaning
(30_encoding.md R92, the `run` of the dispatcher). -/

namespace Sys2Proof.Machine

def exec (i : Instr) (s : State) : Host.Outcome State Fault Refusal :=
  match i with
  | .nop => Sys2Proof.Machine.execNop s
  | .exAfAf => Sys2Proof.Machine.execExAfAf s
  | .djnz e => Sys2Proof.Machine.execDjnz e s
  | .jr e => Sys2Proof.Machine.execJr e s
  | .jrCc cc e => Sys2Proof.Machine.execJrCc cc e s
  | .ldDdNn dd nn => Sys2Proof.Machine.execLdDdNn dd nn s
  | .addHlSs ss => Sys2Proof.Machine.execAddHlSs ss s
  | .ldAtBcA => Sys2Proof.Machine.execLdAtBcA s
  | .ldAtDeA => Sys2Proof.Machine.execLdAtDeA s
  | .ldAtNnHl nn => Sys2Proof.Machine.execLdAtNnHl nn s
  | .ldAtNnA nn => Sys2Proof.Machine.execLdAtNnA nn s
  | .ldAAtBc => Sys2Proof.Machine.execLdAAtBc s
  | .ldAAtDe => Sys2Proof.Machine.execLdAAtDe s
  | .ldHlAtNn nn => Sys2Proof.Machine.execLdHlAtNn nn s
  | .ldAAtNn nn => Sys2Proof.Machine.execLdAAtNn nn s
  | .incSs ss => Sys2Proof.Machine.execIncSs ss s
  | .decSs ss => Sys2Proof.Machine.execDecSs ss s
  | .incR r => Sys2Proof.Machine.execIncR r s
  | .incAtHl => Sys2Proof.Machine.execIncAtHl s
  | .decR r => Sys2Proof.Machine.execDecR r s
  | .decAtHl => Sys2Proof.Machine.execDecAtHl s
  | .ldRN r n => Sys2Proof.Machine.execLdRN r n s
  | .ldAtHlN n => Sys2Proof.Machine.execLdAtHlN n s
  | .rlca => Sys2Proof.Machine.execRlca s
  | .rrca => Sys2Proof.Machine.execRrca s
  | .rla => Sys2Proof.Machine.execRla s
  | .rra => Sys2Proof.Machine.execRra s
  | .daa => Sys2Proof.Machine.execDaa s
  | .cpl => Sys2Proof.Machine.execCpl s
  | .scf => Sys2Proof.Machine.execScf s
  | .ccf => Sys2Proof.Machine.execCcf s
  | .halt => Sys2Proof.Machine.execHalt s
  | .ldRR r r' => Sys2Proof.Machine.execLdRR r r' s
  | .ldRAtHl r => Sys2Proof.Machine.execLdRAtHl r s
  | .ldAtHlR r => Sys2Proof.Machine.execLdAtHlR r s
  | .addAR r => Sys2Proof.Machine.execAddAR r s
  | .addAAtHl => Sys2Proof.Machine.execAddAAtHl s
  | .addAN n => Sys2Proof.Machine.execAddAN n s
  | .adcAR r => Sys2Proof.Machine.execAdcAR r s
  | .adcAAtHl => Sys2Proof.Machine.execAdcAAtHl s
  | .adcAN n => Sys2Proof.Machine.execAdcAN n s
  | .subR r => Sys2Proof.Machine.execSubR r s
  | .subAtHl => Sys2Proof.Machine.execSubAtHl s
  | .subN n => Sys2Proof.Machine.execSubN n s
  | .sbcAR r => Sys2Proof.Machine.execSbcAR r s
  | .sbcAAtHl => Sys2Proof.Machine.execSbcAAtHl s
  | .sbcAN n => Sys2Proof.Machine.execSbcAN n s
  | .andR r => Sys2Proof.Machine.execAndR r s
  | .andAtHl => Sys2Proof.Machine.execAndAtHl s
  | .andN n => Sys2Proof.Machine.execAndN n s
  | .xorR r => Sys2Proof.Machine.execXorR r s
  | .xorAtHl => Sys2Proof.Machine.execXorAtHl s
  | .xorN n => Sys2Proof.Machine.execXorN n s
  | .orR r => Sys2Proof.Machine.execOrR r s
  | .orAtHl => Sys2Proof.Machine.execOrAtHl s
  | .orN n => Sys2Proof.Machine.execOrN n s
  | .cpR r => Sys2Proof.Machine.execCpR r s
  | .cpAtHl => Sys2Proof.Machine.execCpAtHl s
  | .cpN n => Sys2Proof.Machine.execCpN n s
  | .retCc cc => Sys2Proof.Machine.execRetCc cc s
  | .popQq qq => Sys2Proof.Machine.execPopQq qq s
  | .ret => Sys2Proof.Machine.execRet s
  | .exx => Sys2Proof.Machine.execExx s
  | .jpHl => Sys2Proof.Machine.execJpHl s
  | .ldSpHl => Sys2Proof.Machine.execLdSpHl s
  | .jpCcNn cc nn => Sys2Proof.Machine.execJpCcNn cc nn s
  | .jpNn nn => Sys2Proof.Machine.execJpNn nn s
  | .outNA n => Sys2Proof.Machine.execOutNA n s
  | .inAN n => Sys2Proof.Machine.execInAN n s
  | .exAtSpHl => Sys2Proof.Machine.execExAtSpHl s
  | .exDeHl => Sys2Proof.Machine.execExDeHl s
  | .di => Sys2Proof.Machine.execDi s
  | .ei => Sys2Proof.Machine.execEi s
  | .callCcNn cc nn => Sys2Proof.Machine.execCallCcNn cc nn s
  | .pushQq qq => Sys2Proof.Machine.execPushQq qq s
  | .callNn nn => Sys2Proof.Machine.execCallNn nn s
  | .rstP t => Sys2Proof.Machine.execRstP t s
  | .rlcR r => Sys2Proof.Machine.execRlcR r s
  | .rlcAtHl => Sys2Proof.Machine.execRlcAtHl s
  | .rrcR r => Sys2Proof.Machine.execRrcR r s
  | .rrcAtHl => Sys2Proof.Machine.execRrcAtHl s
  | .rlR r => Sys2Proof.Machine.execRlR r s
  | .rlAtHl => Sys2Proof.Machine.execRlAtHl s
  | .rrR r => Sys2Proof.Machine.execRrR r s
  | .rrAtHl => Sys2Proof.Machine.execRrAtHl s
  | .slaR r => Sys2Proof.Machine.execSlaR r s
  | .slaAtHl => Sys2Proof.Machine.execSlaAtHl s
  | .sraR r => Sys2Proof.Machine.execSraR r s
  | .sraAtHl => Sys2Proof.Machine.execSraAtHl s
  | .sllR r => Sys2Proof.Machine.execSllR r s
  | .sllAtHl => Sys2Proof.Machine.execSllAtHl s
  | .srlR r => Sys2Proof.Machine.execSrlR r s
  | .srlAtHl => Sys2Proof.Machine.execSrlAtHl s
  | .bitBR b r => Sys2Proof.Machine.execBitBR b r s
  | .bitBAtHl b => Sys2Proof.Machine.execBitBAtHl b s
  | .resBR b r => Sys2Proof.Machine.execResBR b r s
  | .resBAtHl b => Sys2Proof.Machine.execResBAtHl b s
  | .setBR b r => Sys2Proof.Machine.execSetBR b r s
  | .setBAtHl b => Sys2Proof.Machine.execSetBAtHl b s
  | .inRC r => Sys2Proof.Machine.execInRC r s
  | .inFC => Sys2Proof.Machine.execInFC s
  | .outCR r => Sys2Proof.Machine.execOutCR r s
  | .outC0 => Sys2Proof.Machine.execOutC0 s
  | .sbcHlSs ss => Sys2Proof.Machine.execSbcHlSs ss s
  | .adcHlSs ss => Sys2Proof.Machine.execAdcHlSs ss s
  | .ldAtNnDd nn dd => Sys2Proof.Machine.execLdAtNnDd nn dd s
  | .ldDdAtNn dd nn => Sys2Proof.Machine.execLdDdAtNn dd nn s
  | .neg => Sys2Proof.Machine.execNeg s
  | .negY y => Sys2Proof.Machine.execNegY y s
  | .retn => Sys2Proof.Machine.execRetn s
  | .reti => Sys2Proof.Machine.execReti s
  | .retnY y => Sys2Proof.Machine.execRetnY y s
  | .im0 => Sys2Proof.Machine.execIm0 s
  | .im1 => Sys2Proof.Machine.execIm1 s
  | .im2 => Sys2Proof.Machine.execIm2 s
  | .imY y => Sys2Proof.Machine.execImY y s
  | .ldIA => Sys2Proof.Machine.execLdIA s
  | .ldRA => Sys2Proof.Machine.execLdRA s
  | .ldAI => Sys2Proof.Machine.execLdAI s
  | .ldAR => Sys2Proof.Machine.execLdAR s
  | .rrd => Sys2Proof.Machine.execRrd s
  | .rld => Sys2Proof.Machine.execRld s
  | .nopEd q => Sys2Proof.Machine.execNopEd q s
  | .ldi => Sys2Proof.Machine.execLdi s
  | .ldd => Sys2Proof.Machine.execLdd s
  | .ldir => Sys2Proof.Machine.execLdir s
  | .lddr => Sys2Proof.Machine.execLddr s
  | .cpi => Sys2Proof.Machine.execCpi s
  | .cpd => Sys2Proof.Machine.execCpd s
  | .cpir => Sys2Proof.Machine.execCpir s
  | .cpdr => Sys2Proof.Machine.execCpdr s
  | .ini => Sys2Proof.Machine.execIni s
  | .ind => Sys2Proof.Machine.execInd s
  | .inir => Sys2Proof.Machine.execInir s
  | .indr => Sys2Proof.Machine.execIndr s
  | .outi => Sys2Proof.Machine.execOuti s
  | .outd => Sys2Proof.Machine.execOutd s
  | .otir => Sys2Proof.Machine.execOtir s
  | .otdr => Sys2Proof.Machine.execOtdr s
  | .addXyPp x pp => Sys2Proof.Machine.execAddXyPp x pp s
  | .ldXyNn x nn => Sys2Proof.Machine.execLdXyNn x nn s
  | .ldAtNnXy nn x => Sys2Proof.Machine.execLdAtNnXy nn x s
  | .incXy x => Sys2Proof.Machine.execIncXy x s
  | .decXy x => Sys2Proof.Machine.execDecXy x s
  | .ldXyAtNn x nn => Sys2Proof.Machine.execLdXyAtNn x nn s
  | .incXyh x => Sys2Proof.Machine.execIncXyh x s
  | .decXyh x => Sys2Proof.Machine.execDecXyh x s
  | .incXyl x => Sys2Proof.Machine.execIncXyl x s
  | .decXyl x => Sys2Proof.Machine.execDecXyl x s
  | .ldXyhN x n => Sys2Proof.Machine.execLdXyhN x n s
  | .ldXylN x n => Sys2Proof.Machine.execLdXylN x n s
  | .incAtXyd x d => Sys2Proof.Machine.execIncAtXyd x d s
  | .decAtXyd x d => Sys2Proof.Machine.execDecAtXyd x d s
  | .ldAtXydN x d n => Sys2Proof.Machine.execLdAtXydN x d n s
  | .ldRAtXyd r x d => Sys2Proof.Machine.execLdRAtXyd r x d s
  | .ldAtXydR x d r => Sys2Proof.Machine.execLdAtXydR x d r s
  | .ldHalfP x hf p => Sys2Proof.Machine.execLdHalfP x hf p s
  | .ldPHalf x p hf => Sys2Proof.Machine.execLdPHalf x p hf s
  | .addAAtXyd x d => Sys2Proof.Machine.execAddAAtXyd x d s
  | .addAHalf x hf => Sys2Proof.Machine.execAddAHalf x hf s
  | .adcAAtXyd x d => Sys2Proof.Machine.execAdcAAtXyd x d s
  | .adcAHalf x hf => Sys2Proof.Machine.execAdcAHalf x hf s
  | .subAtXyd x d => Sys2Proof.Machine.execSubAtXyd x d s
  | .subHalf x hf => Sys2Proof.Machine.execSubHalf x hf s
  | .sbcAAtXyd x d => Sys2Proof.Machine.execSbcAAtXyd x d s
  | .sbcAHalf x hf => Sys2Proof.Machine.execSbcAHalf x hf s
  | .andAtXyd x d => Sys2Proof.Machine.execAndAtXyd x d s
  | .andHalf x hf => Sys2Proof.Machine.execAndHalf x hf s
  | .xorAtXyd x d => Sys2Proof.Machine.execXorAtXyd x d s
  | .xorHalf x hf => Sys2Proof.Machine.execXorHalf x hf s
  | .orAtXyd x d => Sys2Proof.Machine.execOrAtXyd x d s
  | .orHalf x hf => Sys2Proof.Machine.execOrHalf x hf s
  | .cpAtXyd x d => Sys2Proof.Machine.execCpAtXyd x d s
  | .cpHalf x hf => Sys2Proof.Machine.execCpHalf x hf s
  | .popXy x => Sys2Proof.Machine.execPopXy x s
  | .exAtSpXy x => Sys2Proof.Machine.execExAtSpXy x s
  | .pushXy x => Sys2Proof.Machine.execPushXy x s
  | .jpXy x => Sys2Proof.Machine.execJpXy x s
  | .ldSpXy x => Sys2Proof.Machine.execLdSpXy x s
  | .rlcAtXyd x d => Sys2Proof.Machine.execRlcAtXyd x d s
  | .rlcAtXydR x d r => Sys2Proof.Machine.execRlcAtXydR x d r s
  | .rrcAtXyd x d => Sys2Proof.Machine.execRrcAtXyd x d s
  | .rrcAtXydR x d r => Sys2Proof.Machine.execRrcAtXydR x d r s
  | .rlAtXyd x d => Sys2Proof.Machine.execRlAtXyd x d s
  | .rlAtXydR x d r => Sys2Proof.Machine.execRlAtXydR x d r s
  | .rrAtXyd x d => Sys2Proof.Machine.execRrAtXyd x d s
  | .rrAtXydR x d r => Sys2Proof.Machine.execRrAtXydR x d r s
  | .slaAtXyd x d => Sys2Proof.Machine.execSlaAtXyd x d s
  | .slaAtXydR x d r => Sys2Proof.Machine.execSlaAtXydR x d r s
  | .sraAtXyd x d => Sys2Proof.Machine.execSraAtXyd x d s
  | .sraAtXydR x d r => Sys2Proof.Machine.execSraAtXydR x d r s
  | .sllAtXyd x d => Sys2Proof.Machine.execSllAtXyd x d s
  | .sllAtXydR x d r => Sys2Proof.Machine.execSllAtXydR x d r s
  | .srlAtXyd x d => Sys2Proof.Machine.execSrlAtXyd x d s
  | .srlAtXydR x d r => Sys2Proof.Machine.execSrlAtXydR x d r s
  | .bitBAtXyd b x d => Sys2Proof.Machine.execBitBAtXyd b x d s
  | .bitBAtXydZ b x d z => Sys2Proof.Machine.execBitBAtXydZ b x d z s
  | .resBAtXyd b x d => Sys2Proof.Machine.execResBAtXyd b x d s
  | .resBAtXydR b x d r => Sys2Proof.Machine.execResBAtXydR b x d r s
  | .setBAtXyd b x d => Sys2Proof.Machine.execSetBAtXyd b x d s
  | .setBAtXydR b x d r => Sys2Proof.Machine.execSetBAtXydR b x d r s

end Sys2Proof.Machine
end

