-- ==== Sys2Proof/Machine/Step.lean ====
section
/-! DEFINITION. One step (60_exceptions.md R420) and the host's way of placing an instruction before it. -/

namespace Sys2Proof.Machine

/-- `Step()` (R420): what the environment does before it (R10, R402), then one instruction or one idle step
of a halted core, then the boundary, which a decode fault skips; the fault carries the record with the reads of
its bytes (R400). -/
def step (s : State) : Host.Outcome State Fault Refusal :=
  let s := s.arrive
  if s.halted then .next s.idle.boundary
  else
    let (bs, s') := s.fetch
    match decode (Window.ofList bs) with
    | .error err => .fault (.decodeFault s.pc err.bytes s'.trace)
    | .ok k =>
      match exec k.instr s' with
      | .next t => .next t.boundary
      | .fault r => .fault r
      | .refused r => .refused r

/-- The state with the instruction whose bits are `w` (byte `k` in bits `8k+7 .. 8k`, zero from `nbits` up)
stored at PC, so that the next step fetches and runs it: the core is not halted, and the environment does
nothing before that step or inside it. -/
def State.withFetchWord (s : State) (nbits w : Nat) : State :=
  let v := w % 2 ^ nbits
  let byte (k : Nat) : Byte := BitVec.ofNat 8 (v / 256 ^ k)
  let put (m : Memory) (k : Nat) : Memory := m.write (s.pc + BitVec.ofNat 16 k).toNat (byte k)
  let s := s.setMem ([0, 1, 2, 3].foldl put s.mem)
  let s := (s.setHalted false).setInside []
  if s.env.isEmpty then s else s.setEnv ([] :: s.env)

end Sys2Proof.Machine
end

