-- ==== Sys2Proof/Safety.lean ====
section
/-! DEFINITION. The words the statements use: what a safe run is, the invariant of the machine, which bytes
stand for an instruction, what completing an instruction means, and the classes of instructions that the
whole-machine rules name. -/

namespace Sys2Proof

/-! ## Classes of instructions -/

/-- The instructions that can write PC beyond their fetch: jumps, calls, returns, restarts and the repeating
block instructions (10_state.md R24). -/
def Instr.writesPc : Instr → Bool
  | .jpNn _ | .jpCcNn _ _ | .jpHl | .jpXy _ | .jr _ | .jrCc _ _ | .djnz _ => true
  | .callNn _ | .callCcNn _ _ | .rstP _ | .ret | .retCc _ | .retn | .retnY _ | .reti => true
  | .ldir | .lddr | .cpir | .cpdr | .inir | .indr | .otir | .otdr => true
  | _ => false

/-- The instructions that can write SP (10_state.md R26). -/
def Instr.writesSp : Instr → Bool
  | .ldDdNn .sp _ | .ldDdAtNn .sp _ | .ldSpHl | .ldSpXy _ | .incSs .sp | .decSs .sp => true
  | .pushQq _ | .pushXy _ | .popQq _ | .popXy _ => true
  | .callNn _ | .callCcNn _ _ | .rstP _ | .ret | .retCc _ | .retn | .retnY _ | .reti => true
  | _ => false

/-- The instructions with a row of their own in the summary of flag effects (40_alu_flag_tables.md R150);
every other one writes no flag. -/
def Instr.writesFlags : Instr → Bool
  | .addAR _ | .addAAtHl | .addAN _ | .addAAtXyd _ _ | .addAHalf _ _ => true
  | .adcAR _ | .adcAAtHl | .adcAN _ | .adcAAtXyd _ _ | .adcAHalf _ _ => true
  | .subR _ | .subAtHl | .subN _ | .subAtXyd _ _ | .subHalf _ _ => true
  | .sbcAR _ | .sbcAAtHl | .sbcAN _ | .sbcAAtXyd _ _ | .sbcAHalf _ _ => true
  | .andR _ | .andAtHl | .andN _ | .andAtXyd _ _ | .andHalf _ _ => true
  | .xorR _ | .xorAtHl | .xorN _ | .xorAtXyd _ _ | .xorHalf _ _ => true
  | .orR _ | .orAtHl | .orN _ | .orAtXyd _ _ | .orHalf _ _ => true
  | .cpR _ | .cpAtHl | .cpN _ | .cpAtXyd _ _ | .cpHalf _ _ => true
  | .incR _ | .incAtHl | .incAtXyd _ _ | .incXyh _ | .incXyl _ => true
  | .decR _ | .decAtHl | .decAtXyd _ _ | .decXyh _ | .decXyl _ => true
  | .addHlSs _ | .addXyPp _ _ | .adcHlSs _ | .sbcHlSs _ => true
  | .rlca | .rrca | .rla | .rra | .rld | .rrd => true
  | .rlcR _ | .rlcAtHl | .rlcAtXyd _ _ | .rlcAtXydR _ _ _ => true
  | .rrcR _ | .rrcAtHl | .rrcAtXyd _ _ | .rrcAtXydR _ _ _ => true
  | .rlR _ | .rlAtHl | .rlAtXyd _ _ | .rlAtXydR _ _ _ => true
  | .rrR _ | .rrAtHl | .rrAtXyd _ _ | .rrAtXydR _ _ _ => true
  | .slaR _ | .slaAtHl | .slaAtXyd _ _ | .slaAtXydR _ _ _ => true
  | .sraR _ | .sraAtHl | .sraAtXyd _ _ | .sraAtXydR _ _ _ => true
  | .sllR _ | .sllAtHl | .sllAtXyd _ _ | .sllAtXydR _ _ _ => true
  | .srlR _ | .srlAtHl | .srlAtXyd _ _ | .srlAtXydR _ _ _ => true
  | .bitBR _ _ | .bitBAtHl _ | .bitBAtXyd _ _ _ | .bitBAtXydZ _ _ _ _ => true
  | .daa | .cpl | .neg | .negY _ | .scf | .ccf | .ldAI | .ldAR | .inRC _ | .inFC => true
  | .ldi | .ldd | .ldir | .lddr | .cpi | .cpd | .cpir | .cpdr => true
  | .ini | .ind | .inir | .indr | .outi | .outd | .otir | .otdr => true
  | .popQq .af | .exAfAf => true
  | _ => false

/-- The instructions that can write memory (20_memory.md R72). -/
def Instr.writesMem : Instr → Bool
  | .ldAtHlR _ | .ldAtXydR _ _ _ | .ldAtHlN _ | .ldAtXydN _ _ _ => true
  | .ldAtBcA | .ldAtDeA | .ldAtNnA _ | .ldAtNnHl _ | .ldAtNnDd _ _ | .ldAtNnXy _ _ => true
  | .pushQq _ | .pushXy _ | .callNn _ | .callCcNn _ _ | .rstP _ | .exAtSpHl | .exAtSpXy _ => true
  | .ldi | .ldd | .ldir | .lddr | .ini | .ind | .inir | .indr | .rld | .rrd => true
  | .incAtHl | .incAtXyd _ _ | .decAtHl | .decAtXyd _ _ => true
  | .rlcAtHl | .rlcAtXyd _ _ | .rlcAtXydR _ _ _ | .rrcAtHl | .rrcAtXyd _ _ | .rrcAtXydR _ _ _ => true
  | .rlAtHl | .rlAtXyd _ _ | .rlAtXydR _ _ _ | .rrAtHl | .rrAtXyd _ _ | .rrAtXydR _ _ _ => true
  | .slaAtHl | .slaAtXyd _ _ | .slaAtXydR _ _ _ | .sraAtHl | .sraAtXyd _ _ | .sraAtXydR _ _ _ => true
  | .sllAtHl | .sllAtXyd _ _ | .sllAtXydR _ _ _ | .srlAtHl | .srlAtXyd _ _ | .srlAtXydR _ _ _ => true
  | .setBAtHl _ | .setBAtXyd _ _ _ | .setBAtXydR _ _ _ _ => true
  | .resBAtHl _ | .resBAtXyd _ _ _ | .resBAtXydR _ _ _ _ => true
  | _ => false

/-- The instructions that only read memory beyond their fetch (20_memory.md R72). -/
def Instr.readsMemOnly : Instr → Bool
  | .ldRAtHl _ | .ldRAtXyd _ _ _ | .ldAAtBc | .ldAAtDe | .ldAAtNn _ => true
  | .ldHlAtNn _ | .ldDdAtNn _ _ | .ldXyAtNn _ _ | .popQq _ | .popXy _ => true
  | .ret | .retCc _ | .retn | .retnY _ | .reti | .cpi | .cpd | .cpir | .cpdr => true
  | .addAAtHl | .addAAtXyd _ _ | .adcAAtHl | .adcAAtXyd _ _ | .subAtHl | .subAtXyd _ _ => true
  | .sbcAAtHl | .sbcAAtXyd _ _ | .andAtHl | .andAtXyd _ _ | .xorAtHl | .xorAtXyd _ _ => true
  | .orAtHl | .orAtXyd _ _ | .cpAtHl | .cpAtXyd _ _ => true
  | .bitBAtHl _ | .bitBAtXyd _ _ _ | .bitBAtXydZ _ _ _ _ => true
  | _ => false

/-- The instructions that reach the port space and do not write memory (20_memory.md R72). -/
def Instr.portOnly : Instr → Bool
  | .inAN _ | .inRC _ | .inFC | .outNA _ | .outCR _ | .outC0 => true
  | .outi | .outd | .otir | .otdr => true
  | _ => false

/-- The opcode and prefix bytes of an instruction that are fetched by `FetchOp` and count in R: one, or two
after a prefix (10_state.md R30). -/
def Instr.opcodeFetches (i : Instr) : Nat :=
  match i.format with
  | .m | .mN | .mE | .mNn => 1
  | .cb | .ed | .edNn | .xy | .xyN | .xyNn | .xyD | .xyDN | .xycb => 2

/-- The prefix and opcode bytes that a decode fault reports: one or two, or four after DD CB and FD CB
(60_exceptions.md R400). -/
def Instr.reportedBytes (i : Instr) : List Byte :=
  match i.format with
  | .xycb => encode i
  | _ => (encode i).take i.opcodeFetches

namespace Machine

/-! ## Invariant and runs -/

/-- The one relation between parts of the state that no type enforces: the memory list is in its canonical
form. -/
def State.Canonical (s : State) : Prop := s.mem.wf = true

/-- A run of `n` steps from `s` is safe when none of its steps stops: the machine stops only by a decode fault
(60_exceptions.md R400). -/
def SafeRun (n : Nat) (s : State) : Prop := ∃ t, Sys2Proof.core.run n s = .next t

/-- Nothing happens inside the coming bus operations and charges: memory and the request bits change only by what
the core does. The statements about one instruction's effect are made here; Obligations.EnvironmentOnlyAnswers
carries them to every environment. -/
def State.Quiet (s : State) : Prop := s.inside = []

/-! ## Bus operations -/

/-- Whether an entry of the record is an operation or event of the core itself, not a clock charge and not the
answer to a query of PC. -/
def BusOp.isOp : BusOp → Bool
  | .tick _ | .pcQuery _ => false
  | .memRead _ _ | .memWrite _ _ | .portRead _ _ | .portWrite _ _ | .debugNmiActivated => true

/-- What the core has issued apart from clock charges, newest first: its memory and port operations and its
output events in the order of 20_memory.md R66. -/
def State.bus (s : State) : List BusOp := s.trace.filter BusOp.isOp

/-- Reads of the bytes `bs` at successive addresses from `addr` on, newest first. -/
def readsFrom (addr : Word) : List Byte → List BusOp
  | [] => []
  | b :: bs => readsFrom (addr + 1#16) bs ++ [.memRead addr b]

/-- From `s` to `t` the request bits changed by the environment's actions only: those `t` no longer has to come. -/
def EnvStep (s t : State) : Prop :=
  ∃ used, s.inside = used ++ t.inside ∧ t.req = (s.acts used.flatten).req

/-! ## Bytes of memory -/

/-- The bytes of `s` after a store of `v` at `addr`. -/
def State.poked (s : State) (addr : Word) (v : Byte) : Word → Byte :=
  fun a => if a = addr then v else s.peek a

/-- The bytes of `s` after a store of the word `v`, low byte at `addr`, high byte at the next address. -/
def State.poked16 (s : State) (addr v : Word) : Word → Byte :=
  fun a => if a = addr then lo8 v else if a = addr + 1#16 then hi8 v else s.peek a

/-- The word whose low byte is at `addr` and whose high byte is at the next address (R63). -/
def State.peek16 (s : State) (addr : Word) : Word := join16 (s.peek (addr + 1#16)) (s.peek addr)

/-! ## Instructions -/

/-- The bytes `bs`, whatever follows them, are the instruction `i`, of class `c`. -/
def Reads (bs : List Byte) (c : InstrClass) (i : Instr) : Prop :=
  i.klass = c ∧ ∀ rest, decode (Window.ofList (bs ++ rest)) = .ok { instr := i, redundant := false }

/-- `t` and `u` agree on every field but memory and the record. -/
def SameRegs (t u : State) : Prop := { t with mem := u.mem, trace := u.trace } = u

/-- `t` and `u` agree on every field but those the environment reaches from inside an operation and the record:
every register of the core but the request bits. -/
def SameCore (t u : State) : Prop :=
  { t with mem := u.mem, req := u.req, inside := u.inside, trace := u.trace } = u

/-- The instruction `i` completes from `s` (PC already the address of the next instruction): `exec` answers a
next state, which is `u` in every field but memory and the trace, in which every byte of memory is as `m`
says, and which has issued exactly the bus operations `ops` more than `s`, oldest first. Clock charges are
left open (70_reset_and_hazards.md R470). -/
def Completes (i : Instr) (s u : State) (m : Word → Byte) (ops : List BusOp) : Prop :=
  ∃ t, exec i s = .next t ∧ SameRegs t u ∧ (∀ a, t.peek a = m a) ∧ t.bus = ops.reverse ++ s.bus

/-- The service or boundary `g` does the same of `s` (60_exceptions.md section 4): registers as `u`, bytes as
`m`, the bus operations `ops` issued. -/
def Yields (g : State → State) (s u : State) (m : Word → Byte) (ops : List BusOp) : Prop :=
  SameRegs (g s) u ∧ (∀ a, (g s).peek a = m a) ∧ (g s).bus = ops.reverse ++ s.bus

/-- `(A, F) <- rf`. -/
def State.withAF (s : State) (rf : Byte × Byte) : State := { s with a := rf.1, f := rf.2 }

/-- An accumulator operation with field `y` and effect `g` on an operand value completes in the five operand
forms of 44_arith_logic_8bit.md R240, with the encoding and the WZ effect of each. -/
def AccForms (y : BitVec 3) (iR : Reg8 → Instr) (iHl : Instr) (iN : Byte → Instr) (iXyd : Idx → Byte → Instr)
    (iHalf : Idx → Half → Instr) (g : State → Byte → State) : Prop :=
  ∀ s : State, s.Quiet →
    (∀ r, Reads [xyz 2#2 y r.code] .documented (iR r) ∧ Completes (iR r) s (g s (s.r8 r)) s.peek []) ∧
    (Reads [xyz 2#2 y 6#3] .documented iHl ∧
      Completes iHl s (g s (s.peek s.hl)) s.peek [.memRead s.hl (s.peek s.hl)]) ∧
    (∀ n, Reads [xyz 3#2 y 6#3, n] .documented (iN n) ∧ Completes (iN n) s (g s n) s.peek []) ∧
    (∀ x d, Reads [x.lead, xyz 2#2 y 6#3, d] .documented (iXyd x d) ∧
      Completes (iXyd x d) s { g s (s.peek (s.xydAddr x d)) with wz := s.xydAddr x d } s.peek
        [.memRead (s.xydAddr x d) (s.peek (s.xydAddr x d))]) ∧
    (∀ x hf, Reads [x.lead, xyz 2#2 y hf.code] .undocumented (iHalf x hf) ∧
      Completes (iHalf x hf) s (g s (s.half x hf)) s.peek [])

/-- The flag byte of a rotate or shift with result `r` and bit out `c` (40_alu_flag_tables.md R144):
`SZ53P[r] | c`. -/
def rotFlags (rc : Byte × Bool) : Byte := sz53p rc.1 ||| (if rc.2 then 0x01#8 else 0x00#8)

/-- A CB-table rotate or shift of kind `k`, index `y`, class `c`, completes in the forms `r` and `(HL)`
(47_rotate_shift_bit.md R294). -/
def RotForms (k : Rot) (y : BitVec 3) (c : InstrClass) (iR : Reg8 → Instr) (iHl : Instr) : Prop :=
  ∀ s : State, s.Quiet → s.Canonical →
    (∀ r, Reads [0xCB#8, xyz 0#2 y r.code] c (iR r) ∧
      Completes (iR r) s
        ({ s with f := rotFlags (rot8 k (s.r8 r) (flagC s.f)) }.setR8 r (rot8 k (s.r8 r) (flagC s.f)).1)
        s.peek []) ∧
    (Reads [0xCB#8, xyz 0#2 y 6#3] c iHl ∧
      Completes iHl s { s with f := rotFlags (rot8 k (s.peek s.hl) (flagC s.f)) }
        (s.poked s.hl (rot8 k (s.peek s.hl) (flagC s.f)).1)
        [.memRead s.hl (s.peek s.hl), .memWrite s.hl (rot8 k (s.peek s.hl) (flagC s.f)).1])

/-- The same in the forms `(XY+d)` and `(XY+d),r` (47_rotate_shift_bit.md R307). -/
def RotFormsXy (k : Rot) (y : BitVec 3) (c : InstrClass) (iXyd : Idx → Byte → Instr)
    (iXydR : Idx → Byte → Reg8 → Instr) : Prop :=
  ∀ (s : State) (x : Idx) (d : Byte), s.Quiet → s.Canonical →
    let addr := s.xydAddr x d
    let rc := rot8 k (s.peek addr) (flagC s.f)
    let u := { s with f := rotFlags rc, wz := addr }
    (Reads [x.lead, 0xCB#8, d, xyz 0#2 y 6#3] c (iXyd x d) ∧
      Completes (iXyd x d) s u (s.poked addr rc.1)
        [.memRead addr (s.peek addr), .memWrite addr rc.1]) ∧
    (∀ r, Reads [x.lead, 0xCB#8, d, xyz 0#2 y r.code] .undocumented (iXydR x d r) ∧
      Completes (iXydR x d r) s (u.setR8 r rc.1) (s.poked addr rc.1)
        [.memRead addr (s.peek addr), .memWrite addr rc.1])

/-! ## Expected states of the block instructions -/

/-- The registers after one iteration of `LDI` (`k = 1`) or `LDD` (`k = -1`) (43_exchange_block.md R225,
R227). -/
def State.afterLd (s : State) (k : Word) : State :=
  let n := s.peek s.hl + s.a
  { ((s.setHl (s.hl + k)).setDe (s.de + k)).setBc (s.bc - 1#16) with
    f := (s.f &&& 0xC1#8) ||| (if s.bc - 1#16 ≠ 0#16 then 0x04#8 else 0x00#8) |||
      (n &&& 0x08#8) ||| ((n &&& 0x02#8) <<< 4) }

/-- The registers after one iteration of `CPI` (`k = 1`) or `CPD` (`k = -1`) (R229, R231): `hf` is the borrow from
bit 4. -/
def State.afterCp (s : State) (k : Word) : State :=
  let t := s.peek s.hl
  let r := s.a - t
  let hf := s.a.toNat % 16 < t.toNat % 16
  let n := r - (if hf then 1#8 else 0#8)
  { (s.setHl (s.hl + k)).setBc (s.bc - 1#16) with
    wz := s.wz + k
    f := (s.f &&& 0x01#8) ||| 0x02#8 ||| (if hf then 0x10#8 else 0x00#8) |||
      (if s.bc - 1#16 ≠ 0#16 then 0x04#8 else 0x00#8) ||| (r &&& 0x80#8) |||
      (if r = 0#8 then 0x40#8 else 0x00#8) ||| (n &&& 0x08#8) ||| ((n &&& 0x02#8) <<< 4) }

/-- The repeat of a block transfer or search whose registers are `u`: PC back over the two bytes, WZ the
address after the new PC (R226). -/
def State.repeated (u : State) : State := { u with pc := u.pc - 2#16, wz := u.pc - 2#16 + 1#16 }

/-- `IOBLKF(t, k, b)` as 49_input_output.md R347 writes it: S, Z, bits 5 and 3 from the new B, N from bit 7 of the
byte transferred, H and C together where the sum `k` exceeds 0xFF, P the parity of `(k & 7) ^ b`. -/
def blockPortFlags (t : Byte) (k : Nat) (b : Byte) : Byte :=
  (b &&& 0xA8#8) ||| (if b = 0#8 then 0x40#8 else 0x00#8) ||| (if t.getLsbD 7 then 0x02#8 else 0x00#8) |||
    (if 0xFF < k then 0x11#8 else 0x00#8) |||
    (if parity ((BitVec.ofNat 8 k &&& 0x07#8) ^^^ b) then 0x04#8 else 0x00#8)

/-- The registers after one iteration of `INI` (`k = 1`, `k8 = 1`) or `IND` (`k = -1`, `k8 = -1`)
(49_input_output.md R347, R348, R350): `t` is the byte the port answered, `s` already holds what that answer
leaves. -/
def State.afterIn (s : State) (t : Byte) (k : Word) (k8 : Byte) : State :=
  { s.setHl (s.hl + k) with
    b := s.b - 1#8
    wz := s.bc + k
    f := blockPortFlags t (t.toNat + (s.c + k8).toNat) (s.b - 1#8) }

/-- The registers after one iteration of `OUTI` (`k = 1`) or `OUTD` (`k = -1`) (R347, R352, R354). -/
def State.afterOut (s : State) (k : Word) : State :=
  let t := s.peek s.hl
  { s.setHl (s.hl + k) with
    b := s.b - 1#8
    wz := join16 (s.b - 1#8) s.c + k
    f := blockPortFlags t (t.toNat + (lo8 (s.hl + k)).toNat) (s.b - 1#8) }

end Machine

end Sys2Proof
end

