-- ==== Sys2Proof/Certificates/Slice0/Obligations.lean ====
section
/-! DEFINITION. The statements. `Reads bs c i` says that the bytes `bs` are the instruction `i` of class `c`;
`Completes i s u m ops` says that `i` runs from `s` to a next state with the registers of `u`, the bytes `m`
and the bus operations `ops`, everything else as in `s` (Safety.lean). PC in `s` is the address of the next
instruction, as in the pseudocode of the spec (00_scope.md R8). `s.Quiet` says that the environment does nothing
inside the operations of the instruction; EnvironmentOnlyAnswers carries the statements made there to every
environment. -/

section

open Sys2Proof Sys2Proof.Machine

/-! ## Reset, runs and the invariant -/

/-- Cold start, for every value `u` of what it leaves unspecified (70_reset_and_hazards.md R450, 10_state.md
R37). The values of the unlisted registers in State.reset are the model's choice (log entry 1), what memory
reads as is log entry 2: no clause names them. -/
def Obligations.ColdStart : Prop :=
  (∀ u : ColdUnlisted,
    let s := State.coldStart u
    s.af = 0xFFFF#16 ∧ s.af' = 0xFFFF#16 ∧ s.bc = 0xFFFF#16 ∧ s.de = 0xFFFF#16 ∧ s.hl = 0xFFFF#16 ∧
    s.sp = 0xFFFF#16 ∧ s.pc = 0x0000#16 ∧ s.i = 0x00#8 ∧ s.r = 0x00#8 ∧
    s.iff1 = false ∧ s.iff2 = false ∧ s.im = .im0 ∧
    s.req = { reset := false, irqA := false, irqB := false, nmiDebug := false, nmiOther := false } ∧
    s.irqDelay = false ∧ s.halted = false ∧
    (s.ix, s.iy, s.wz, s.bc', s.de', s.hl') = (u.ix, u.iy, u.wz, u.bc', u.de', u.hl') ∧
    s.trace = []) ∧
  ∃ u, State.reset = State.coldStart u

/-- The invariant holds after reset; what it says: the listed addresses rise strictly and are those of the
16-bit space, no listed byte is what an unlisted address reads as, and memories that read alike are equal. -/
def Obligations.ResetCanonical : Prop :=
  State.reset.Canonical ∧
  (∀ s : State, s.Canonical ↔ (s.mem.map Prod.fst).Pairwise (· < ·) ∧
    ∀ c ∈ s.mem, c.1 < 65536 ∧ c.2 ≠ Config.unlistedByte) ∧
  (∀ s t : State, s.Canonical → t.Canonical → (∀ a, s.peek a = t.peek a) → s.mem = t.mem)

/-- Every step, from any state, keeps the memory list canonical: equal memories stay equal data. -/
def Obligations.StepKeepsCanonical : Prop :=
  ∀ s t : State, s.Canonical → step s = .next t → t.Canonical

/-! ## Encoding and decoding -/

/-- Decoding the encoding of any well-formed instruction, whatever bytes follow, gives it back. -/
def Obligations.DecodeEncode : Prop :=
  ∀ i : Instr, i.wellFormed = true →
    ∀ rest, decode (Window.ofList (encode i ++ rest)) = .ok { instr := i, redundant := false }

/-- What decodes is well-formed and its encoding is the first `len` bytes: no byte sequence reads as two
instructions, no operand bit is dropped (30_encoding.md R106, R108). -/
def Obligations.EncodeDecode : Prop :=
  ∀ (w : Window) (k : Decoded), decode w = .ok k →
    k.redundant = false ∧ k.instr.wellFormed = true ∧ Config.impl.has k.instr.klass = true ∧
      encode k.instr = [w.b0, w.b1, w.b2, w.b3].take k.len

/-- Words written out bit by bit from the encoding tables, one for each table (30_encoding.md R98 to R102). -/
def Obligations.DecodeWords : Prop :=
  decodeTableWord 8 0b00111100 = some (.incR .a) ∧
  decodeTableWord 16 0b11111110_00011000 = some (.jr 0xFE#8) ∧
  decodeTableWord 8 0b10_001_110 = some .adcAAtHl ∧
  decodeTableWord 16 0b01_111_110_11001011 = some (.bitBAtHl 7#3) ∧
  decodeTableWord 32 0b01010000_00000000_01_11_1_011_11101101 = some (.ldDdAtNn .sp 0x5000#16) ∧
  decodeTableWord 24 0b00000101_01_110_111_11111101 = some (.ldAtXydR .iy 0x05#8 .a) ∧
  decodeTableWord 16 0b01_111_100_11011101 = some (.ldPHalf .ix .a .high) ∧
  decodeTableWord 32 0b11_000_111_11111111_11001011_11011101 = some (.setBAtXydR 0#3 .ix 0xFF#8 .a) ∧
  decodeTableWord 16 0b00000000_11101101 = none

/-- The byte sequences without a handler (30_encoding.md R104, R105): the ED holes, a DD or FD byte before DD,
ED or FD, and, in the class setting of R4, every other sequence with which no well-formed instruction's
encoding begins. -/
def Obligations.NoHandler : Prop :=
  ∀ w : Window,
    (w.b0 = 0xED#8 →
      (decode w = .error (.edHole [w.b0, w.b1]) ↔
        w.b1.toNat < 0x40 ∨ (0x80 ≤ w.b1.toNat ∧ w.b1.toNat ≤ 0x9F) ∨
        (0xA4 ≤ w.b1.toNat ∧ w.b1.toNat ≤ 0xA7) ∨ (0xAC ≤ w.b1.toNat ∧ w.b1.toNat ≤ 0xAF) ∨
        (0xB4 ≤ w.b1.toNat ∧ w.b1.toNat ≤ 0xB7) ∨ 0xBC ≤ w.b1.toNat)) ∧
    (w.b0 = 0xDD#8 ∨ w.b0 = 0xFD#8 → w.b1 = 0xDD#8 ∨ w.b1 = 0xED#8 ∨ w.b1 = 0xFD#8 →
      decode w = .error (.secondPfx [w.b0, w.b1])) ∧
    ((∃ err, decode w = .error err) ↔
      ∀ i : Instr, i.wellFormed = true → ¬ encode i <+: [w.b0, w.b1, w.b2, w.b3])

/-- The classes of `IMPL` (30_encoding.md R103, R105): an instruction that some setting decodes is decoded
under another exactly when the class of its encoding is in it; else the fault reports its prefix and opcode
bytes, or the two bytes of a redundant prefix. Each class has its own switch; the default gives the documented and
the undocumented class a handler (00_scope.md R4, decisions D1, D5, D6). -/
def Obligations.ImplSelects : Prop :=
  (∀ m : Impl, m.has .documented = m.documented ∧ m.has .undocumented = m.undocumented ∧
    m.has .redundantPfx = m.redundantPfx) ∧
  Config.impl = { documented := true, undocumented := true, redundantPfx := false } ∧
  ∀ (m m' : Impl) (w : Window) (k : Decoded), decodeWith m w = .ok k →
    let c := if k.redundant then InstrClass.redundantPfx else k.instr.klass
    m.has c = true ∧
    (m'.has c = true → decodeWith m' w = .ok k) ∧
    (m'.has c = false → ∃ err, decodeWith m' w = .error err ∧
      err.bytes = if k.redundant then [w.b0, w.b1] else k.instr.reportedBytes)

/-! ## The step -/

/-- A step runs the decoded instruction: what the environment does first, the fetch, the instruction's
meaning, which always answers a next state, then the boundary (60_exceptions.md R420). -/
def Obligations.StepRunsDecoded : Prop :=
  ∀ (s : State) (k : Decoded), s.arrive.halted = false →
    decode (Window.ofList s.arrive.fetch.1) = .ok k →
    ∃ t, exec k.instr s.arrive.fetch.2 = .next t ∧ step s = .next t.boundary

/-- Whatever well-formed instruction's bytes the bus answers, the step runs it; in a quiet environment the bus
answers the bytes that stand at PC. -/
def Obligations.StepRunsEncoded : Prop :=
  ∀ (s : State) (i : Instr), i.wellFormed = true → s.arrive.halted = false →
    (s.Quiet →
      (∀ n, n < (encode i).length →
        s.arrive.peek (s.arrive.pc + BitVec.ofNat 16 n) = byteAt (encode i) n) →
      s.arrive.fetch.1 = encode i) ∧
    (s.arrive.fetch.1 = encode i →
      ∃ t, exec i s.arrive.fetch.2 = .next t ∧ step s = .next t.boundary)

/-- What a fetch does: PC past the instruction, R counted once for each opcode and prefix byte in its low seven
bits, one bus read for each byte in address order, nothing else; a fetch that finds no handler reads the bytes the
fault reports (30_encoding.md R92, R105, R106; 10_state.md R30; 60_exceptions.md R400). In a quiet environment
the bytes are those at PC. -/
def Obligations.FetchAdvances : Prop :=
  ∀ s : State,
    let bs := s.fetch.1
    let t := s.fetch.2
    let n := match decode (Window.ofList bs) with
      | .ok k => k.instr.opcodeFetches + (if k.redundant then 1 else 0)
      | .error _ => 2
    SameCore t
      { s with
        pc := s.pc + BitVec.ofNat 16 bs.length
        r := (s.r &&& 0x80#8) ||| ((s.r + BitVec.ofNat 8 n) &&& 0x7F#8) } ∧
    t.bus = readsFrom s.pc bs ++ s.bus ∧ EnvStep s t ∧
    (∀ k, decode (Window.ofList bs) = .ok k → bs.length = k.len) ∧
    (∀ err, decode (Window.ofList bs) = .error err → bs = err.bytes) ∧
    (s.Quiet → t.mem = s.mem ∧
      ∀ j, j < bs.length → byteAt bs j = s.peek (s.pc + BitVec.ofNat 16 j))

/-- The step of a halted core (45_general_control.md R269): R counts once, no bus operation, then the
boundary. -/
def Obligations.IdleStep : Prop :=
  ∀ s : State, s.arrive.halted = true →
    ∃ t, step s = .next t.boundary ∧
      SameCore t { s.arrive with r := (s.arrive.r &&& 0x80#8) ||| ((s.arrive.r + 1#8) &&& 0x7F#8) } ∧
      EnvStep s.arrive t ∧ t.bus = s.arrive.bus ∧ (s.Quiet → t.mem = s.arrive.mem)

/-- A step stops only by a decode fault, exactly when the core is not halted and the bytes fetched have no
handler. The fault reports the address of the first byte, the bytes, and the record, on which the reads of those
bytes are the last operations (60_exceptions.md R400, R415). -/
def Obligations.StopsOnlyByDecodeFault : Prop :=
  ∀ s : State,
    (∀ r, step s ≠ .refused r) ∧
    (∀ f, step s = .fault f ↔
      s.arrive.halted = false ∧
        ∃ err, decode (Window.ofList s.arrive.fetch.1) = .error err ∧
          f = .decodeFault s.arrive.pc err.bytes s.arrive.fetch.2.trace) ∧
    (∀ addr bytes record, step s = .fault (.decodeFault addr bytes record) →
      record.filter BusOp.isOp = readsFrom addr bytes ++ s.bus)

/-! ## Whole-machine rules over all instructions -/

/-- Every instruction answers a next state, whatever the environment does inside it, and leaves the request bits
to the environment and the services; only `EI` writes the accept delay and only `HALT` the halted state
(00_scope.md R8, 10_state.md R33 to R36). -/
def Obligations.RequestsUntouched : Prop :=
  ∀ (i : Instr) (s : State), ∃ t, exec i s = .next t ∧ EnvStep s t ∧ t.env = s.env ∧
    (i ≠ .ei → t.irqDelay = s.irqDelay) ∧ (i ≠ .halt → t.halted = s.halted)

/-- Who writes the interrupt flip-flops, the mode, I, R and the shadow set (10_state.md R23, R28 to R32), PC
beyond the fetch, and SP (R24, R26). -/
def Obligations.RegisterWriters : Prop :=
  (∀ (i : Instr) (s t : State), exec i s = .next t →
     (t.iff1 ≠ s.iff1 → i = .di ∨ i = .ei ∨ i = .retn ∨ i = .reti ∨ ∃ y, i = .retnY y) ∧
     (t.iff2 ≠ s.iff2 → i = .di ∨ i = .ei) ∧
     (t.im ≠ s.im → i = .im0 ∨ i = .im1 ∨ i = .im2 ∨ ∃ y, i = .imY y) ∧
     (t.i ≠ s.i → i = .ldIA) ∧ (t.r ≠ s.r → i = .ldRA) ∧
     (t.af' ≠ s.af' → i = .exAfAf) ∧
     ((t.bc', t.de', t.hl') ≠ (s.bc', s.de', s.hl') → i = .exx)) ∧
  (∀ (i : Instr) (s t : State), exec i s = .next t →
     (i.writesPc = false → t.pc = s.pc) ∧ (i.writesSp = false → t.sp = s.sp))

/-- An instruction without a row in the summary of flag effects leaves all eight flags as they were
(40_alu_flag_tables.md R150, last row; 10_state.md R25). -/
def Obligations.FlagWriters : Prop :=
  ∀ (i : Instr) (s t : State), i.writesFlags = false → exec i s = .next t → t.f = s.f

/-- Which instructions reach which space beyond their fetch (20_memory.md R72): those that are not in its
lists issue no bus operation, memory is written only by those listed, ports are reached only by the input and
output instructions. -/
def Obligations.BusUsers : Prop :=
  ∀ (i : Instr) (s t : State), exec i s = .next t →
    ∃ ops, t.bus = ops ++ s.bus ∧
      (i.writesMem = false → (s.Quiet → t.mem = s.mem) ∧ ∀ a v, BusOp.memWrite a v ∉ ops) ∧
      (i.portOnly = false → i ≠ .ini → i ≠ .ind → i ≠ .inir → i ≠ .indr →
        ∀ a v, BusOp.portRead a v ∉ ops ∧ BusOp.portWrite a v ∉ ops) ∧
      (i.writesMem = false → i.readsMemOnly = false → i.portOnly = false → ops = [])

/-! ## Requests, boundary and services -/

/-- Non-maskable service at a boundary without a reset request (60_exceptions.md R410, R404, R421; decisions
D12, D17, D25): what is saved where, the flip-flops, the vector, the debug event. -/
def Obligations.NmiService : Prop :=
  ∀ s : State, s.Quiet → s.Canonical → s.req.reset = false →
    (s.req.nmiDebug = true ∨ s.req.nmiOther = true) →
    Yields State.boundary s
      { s with
        irqDelay := false, req := { s.req with nmiDebug := false, nmiOther := false }, halted := false
        r := (s.r &&& 0x80#8) ||| ((s.r + 1#8) &&& 0x7F#8)
        iff2 := s.iff1, iff1 := false, sp := s.sp - 2#16, pc := 0x0066#16, wz := 0x0066#16 }
      (s.poked16 (s.sp - 2#16) s.pc)
      ([.memWrite (s.sp - 1#16) (hi8 s.pc), .memWrite (s.sp - 2#16) (lo8 s.pc)] ++
        if s.req.nmiDebug then [.debugNmiActivated] else [])

/-- Maskable service at a boundary (R411, R412, R421; decisions D12, D13, D25): both flip-flops cleared, the
request bits kept, PC pushed, the fixed vector in modes 0 and 1, the vector read from `I:0xFF` after the
pushes in mode 2. -/
def Obligations.IrqService : Prop :=
  ∀ s : State, s.Quiet → s.Canonical →
    s.req.reset = false → s.req.nmiDebug = false → s.req.nmiOther = false →
    (s.req.irqA = true ∨ s.req.irqB = true) → s.iff1 = true → s.irqDelay = false →
    let m := s.poked16 (s.sp - 2#16) s.pc
    let v := join16 s.i 0xFF#8
    let pushes := [.memWrite (s.sp - 1#16) (hi8 s.pc), .memWrite (s.sp - 2#16) (lo8 s.pc)]
    let u := fun target : Word =>
      { s with
        halted := false, r := (s.r &&& 0x80#8) ||| ((s.r + 1#8) &&& 0x7F#8)
        iff1 := false, iff2 := false, sp := s.sp - 2#16, pc := target, wz := target }
    (s.im ≠ .im2 → Yields State.boundary s (u 0x0038#16) m pushes) ∧
    (s.im = .im2 →
      Yields State.boundary s (u (join16 (m (v + 1#16)) (m v))) m
        (pushes ++ [.memRead v (m v), .memRead (v + 1#16) (m (v + 1#16))]))

/-- Reset service at a boundary, before every other request (R413, R421; decision D29): control state only, no
bus operation. -/
def Obligations.ResetService : Prop :=
  ∀ s : State, s.Quiet → s.req.reset = true →
    Yields State.boundary s
      { s with
        iff1 := false, iff2 := false, pc := 0x0000#16, i := 0x00#8, r := 0x00#8, im := .im0
        req := { reset := false, irqA := false, irqB := false, nmiDebug := false, nmiOther := false }
        halted := false, irqDelay := false }
      s.peek []

/-- Priority at a boundary (R421): with nothing to service only the accept delay is consumed; a maskable
request changes nothing while IFF1 is 0 or the delay is set; it does not delay or alter a non-maskable one. -/
def Obligations.BoundaryPriority : Prop :=
  ∀ s : State,
    s.boundary.irqDelay = false ∧
    (s.req.reset = false → s.req.nmiDebug = false → s.req.nmiOther = false →
      (s.req.irqA = false ∧ s.req.irqB = false) ∨ s.iff1 = false ∨ s.irqDelay = true →
      s.boundary = { s with irqDelay := false }) ∧
    (s.Quiet → s.req.reset = false → (s.req.nmiDebug = true ∨ s.req.nmiOther = true) → ∀ a b d,
      { s with req := { s.req with irqA := a, irqB := b }, irqDelay := d }.boundary =
        { s.boundary with req := { s.boundary.req with irqA := a, irqB := b } })

/-- The shadow of `EI` (70_reset_and_hazards.md R461, decision D10): the boundary after `EI` accepts no
maskable request, the one after the next instruction does, whatever the environment does inside them. -/
def Obligations.EiShadow : Prop :=
  ∀ s : State, s.arrive.halted = false →
    let bs := s.arrive.fetch.1
    let s' := s.arrive.fetch.2
    (decode (Window.ofList bs) = .ok { instr := .ei, redundant := false } →
      s'.req.reset = false → s'.req.nmiDebug = false → s'.req.nmiOther = false →
      ∃ t, step s = .next t ∧ t.pc = s.arrive.pc + 1#16 ∧ t.sp = s.arrive.sp ∧
        t.iff1 = true ∧ t.iff2 = true ∧ t.irqDelay = false ∧ t.req = s'.req) ∧
    (∀ k t, decode (Window.ofList bs) = .ok k → k.instr ≠ .ei → s.arrive.irqDelay = false →
      exec k.instr s' = .next t → t.iff1 = true →
      t.req.reset = false → t.req.nmiDebug = false → t.req.nmiOther = false →
      (t.req.irqA = true ∨ t.req.irqB = true) →
      ∃ u, step s = .next u ∧ u.iff1 = false ∧ u.iff2 = false ∧ u.sp = t.sp - 2#16 ∧
        u.halted = false ∧ EnvStep t u ∧ (t.im ≠ .im2 → u.pc = 0x0038#16))

/-- The entry points (R402 to R404, R432; decision D28): each signal writes its bit of `req` and nothing else, the
query of PC changes nothing and its answer is recorded, a change of memory changes that byte (20_memory.md R67).
They may come inside a bus operation or charge (00_scope.md R10): a read answers what memory holds after them, and
a query there answers the address of the next unfetched byte. That PC moves before the charge of its fetch is log
entry 8, the lists of what comes are log entry 5. -/
def Obligations.Signals : Prop :=
  ∀ s : State,
    (s.acts [] = s ∧ (∀ x l, s.acts (x :: l) = (s.act x).acts l) ∧
      (s.env = [] → s.arrive = s) ∧
      (∀ l rest, s.env = l :: rest → s.arrive = ({ s with env := rest } : State).acts l)) ∧
    (s.act .assertIrqA = { s with req := { s.req with irqA := true } } ∧
      s.act .deassertIrqA = { s with req := { s.req with irqA := false } } ∧
      s.act .assertIrqB = { s with req := { s.req with irqB := true } } ∧
      s.act .deassertIrqB = { s with req := { s.req with irqB := false } } ∧
      s.act .assertNmiDebug = { s with req := { s.req with nmiDebug := true } } ∧
      s.act .assertNmiOther = { s with req := { s.req with nmiOther := true } } ∧
      s.act .requestReset = { s with req := { s.req with reset := true } }) ∧
    (s.queryPc = s.pc ∧ s.act .queryPc = { s with trace := .pcQuery s.pc :: s.trace }) ∧
    (∀ a v, { s.act (.changeByte a v) with mem := s.mem } = s ∧
      (s.Canonical → ∀ b, (s.act (.changeByte a v)).peek b = s.poked a v b)) ∧
    (∀ l rest, s.inside = l :: rest →
      (∀ a, (s.memRead a).1 = (({ s with inside := rest } : State).acts l).peek a) ∧
      (∀ n, s.tick n = ({ s with inside := rest, trace := .tick n :: s.trace } : State).acts l)) ∧
    (∀ n rest, s.inside = [.queryPc] :: rest → .pcQuery s.pc ∈ (s.fetchByte n).2.trace) ∧
    (∀ n rest, s.inside = [] :: [.queryPc] :: rest → .pcQuery (s.pc + 1#16) ∈ (s.fetchByte n).2.trace)

/-- Returning from a handler (R414): `RETN` after non-maskable service restores PC, SP and IFF1; `RETI` after
maskable service restores PC and SP and leaves interrupts disabled; `RET` after `CALL nn` restores PC and
SP. -/
def Obligations.HandlerRoundTrip : Prop :=
  ∀ s : State, s.Quiet → s.Canonical →
    (s.req.reset = false → (s.req.nmiDebug = true ∨ s.req.nmiOther = true) →
      ∃ t, exec .retn s.boundary = .next t ∧ t.pc = s.pc ∧ t.sp = s.sp ∧ t.iff1 = s.iff1) ∧
    (s.req.reset = false → s.req.nmiDebug = false → s.req.nmiOther = false →
      (s.req.irqA = true ∨ s.req.irqB = true) → s.iff1 = true → s.irqDelay = false →
      ∃ t, exec .reti s.boundary = .next t ∧ t.pc = s.pc ∧ t.sp = s.sp ∧ t.iff1 = false) ∧
    (∀ nn, ∃ u t, exec (.callNn nn) s = .next u ∧ u.pc = nn ∧ exec .ret u = .next t ∧
      t.pc = s.pc ∧ t.sp = s.sp)

/-! ## Tables and flags (30_encoding.md, 40_alu_flag_tables.md) -/

/-- The tables behind the rules: the eight bits of F (10_state.md R25); the sign, zero, bit-5, bit-3 table and the
parity table (R131 to R133); the eight rotates and shifts, result and bit out (R144); the conditions of R94, each one
flag and its value; the selector tables of R94 and R95 entry by entry, with the fields of an opcode byte (R93); pairs
and halves (00_scope.md R5, 10_state.md R21); what each register selector reads, and what a write through it leaves:
exactly that register or pair written, a half without the other (R95, R21). -/
def Obligations.SelectorTables : Prop :=
  ((∀ f : Byte, [flagS f, flagZ f, flagY f, flagH f, flagX f, flagP f, flagN f, flagC f] =
     [7, 6, 5, 4, 3, 2, 1, 0].map f.getLsbD) ∧
   (∀ v : Byte, flagS (sz53 v) = v.msb ∧ flagZ (sz53 v) = (v == 0#8) ∧ flagY (sz53 v) = v.getLsbD 5 ∧
     flagX (sz53 v) = v.getLsbD 3 ∧ sz53 v &&& 0x17#8 = 0#8) ∧
   (∀ v : Byte, parity v = true ↔ ((List.range 8).filter fun k => v.getLsbD k).length % 2 = 0) ∧
   (∀ v : Byte, sz53p v = sz53 v ||| (if parity v then 0x04#8 else 0x00#8))) ∧
  (∀ (v : Byte) (c : Bool),
     rot8 .rlc v c = (v.rotateLeft 1, v.msb) ∧
     rot8 .rrc v c = (v.rotateRight 1, v.getLsbD 0) ∧
     rot8 .rl v c = (BitVec.ofNat 8 (2 * v.toNat + c.toNat), v.msb) ∧
     rot8 .rr v c = (BitVec.ofNat 8 (v.toNat / 2 + 128 * c.toNat), v.getLsbD 0) ∧
     rot8 .sla v c = (BitVec.ofNat 8 (2 * v.toNat), v.msb) ∧
     rot8 .sra v c = (v.sshiftRight 1, v.getLsbD 0) ∧
     rot8 .sll v c = (BitVec.ofNat 8 (2 * v.toNat + 1), v.msb) ∧
     rot8 .srl v c = (BitVec.ofNat 8 (v.toNat / 2), v.getLsbD 0)) ∧
  (∀ s : State,
     (s.cond .nz = true ↔ s.f.getLsbD 6 = false) ∧ (s.cond .z = true ↔ s.f.getLsbD 6 = true) ∧
     (s.cond .nc = true ↔ s.f.getLsbD 0 = false) ∧ (s.cond .c = true ↔ s.f.getLsbD 0 = true) ∧
     (s.cond .po = true ↔ s.f.getLsbD 2 = false) ∧ (s.cond .pe = true ↔ s.f.getLsbD 2 = true) ∧
     (s.cond .p = true ↔ s.f.getLsbD 7 = false) ∧ (s.cond .m = true ↔ s.f.getLsbD 7 = true) ∧
     s.condJr .nz = s.cond .nz ∧ s.condJr .z = s.cond .z ∧
     s.condJr .nc = s.cond .nc ∧ s.condJr .c = s.cond .c) ∧
  ((List.range 8).map selCond = [.nz, .z, .nc, .c, .po, .pe, .p, .m] ∧
   (∀ cc : CondJr, 4 ≤ cc.code.toNat ∧ ∀ s : State, s.condJr cc = s.cond (selCond (cc.code.toNat - 4))) ∧
   (∀ r, (List.range 8).map (aluR · r) =
     [.addAR r, .adcAR r, .subR r, .sbcAR r, .andR r, .xorR r, .orR r, .cpR r]) ∧
   (∀ r, (List.range 8).map (rotR · r) =
     [.rlcR r, .rrcR r, .rlR r, .rrR r, .slaR r, .sraR r, .sllR r, .srlR r]) ∧
   ((List.range 8).map fun y => imOf (BitVec.ofNat 3 y)) =
     [.im0, .im0, .im1, .im2, .im0, .im0, .im1, .im2]) ∧
  ((List.range 8).map selR8 =
     [some .b, some .c, some .d, some .e, some .h, some .l, none, some .a] ∧
   (List.range 8).map selP8 =
     [some .b, some .c, some .d, some .e, some .xh, some .xl, none, some .a] ∧
   (List.range 4).map selRp = [.bc, .de, .hl, .sp] ∧
   (List.range 4).map selRp2 = [.bc, .de, .hl, .af] ∧
   (List.range 4).map selRpX = [.bc, .de, .xy, .sp]) ∧
  ([Reg8.b, .c, .d, .e, .h, .l, .a].map Reg8.code = [0#3, 1#3, 2#3, 3#3, 4#3, 5#3, 7#3] ∧
   [Reg8X.b, .c, .d, .e, .xh, .xl, .a].map Reg8X.code = [0#3, 1#3, 2#3, 3#3, 4#3, 5#3, 7#3] ∧
   [Half.high, .low].map Half.code = [4#3, 5#3] ∧
   [Rp.bc, .de, .hl, .sp].map Rp.code = [0#2, 1#2, 2#2, 3#2] ∧
   [Rp2.bc, .de, .hl, .af].map Rp2.code = [0#2, 1#2, 2#2, 3#2] ∧
   [RpX.bc, .de, .xy, .sp].map RpX.code = [0#2, 1#2, 2#2, 3#2] ∧
   [Cond.nz, .z, .nc, .c, .po, .pe, .p, .m].map Cond.code = [0#3, 1#3, 2#3, 3#3, 4#3, 5#3, 6#3, 7#3] ∧
   [CondJr.nz, .z, .nc, .c].map CondJr.code = [4#3, 5#3, 6#3, 7#3] ∧
   [Idx.ix, .iy].map Idx.lead = [0xDD#8, 0xFD#8] ∧
   (∀ x y z, (xyz x y z).toNat = 64 * x.toNat + 8 * y.toNat + z.toNat) ∧
   (∀ x p q z, (xpqz x p q z).toNat = 64 * x.toNat + 16 * p.toNat + 8 * q.toNat + z.toNat)) ∧
  ((∀ h l : Byte, (join16 h l).toNat = 256 * h.toNat + l.toNat) ∧
   (∀ v : Word, (hi8 v).toNat = v.toNat / 256 ∧ (lo8 v).toNat = v.toNat % 256)) ∧
  (∀ s : State,
     s.af = join16 s.a s.f ∧ s.bc = join16 s.b s.c ∧ s.de = join16 s.d s.e ∧ s.hl = join16 s.h s.l ∧
     [Reg8.b, .c, .d, .e, .h, .l, .a].map s.r8 = [s.b, s.c, s.d, s.e, s.h, s.l, s.a] ∧
     [Rp.bc, .de, .hl, .sp].map s.rp = [join16 s.b s.c, join16 s.d s.e, join16 s.h s.l, s.sp] ∧
     [Rp2.bc, .de, .hl, .af].map s.rp2 = [join16 s.b s.c, join16 s.d s.e, join16 s.h s.l, join16 s.a s.f] ∧
     (∀ x, [Reg8X.b, .c, .d, .e, .xh, .xl, .a].map (s.p8 x) =
       [s.b, s.c, s.d, s.e, hi8 (s.xy x), lo8 (s.xy x), s.a]) ∧
     (∀ x, [RpX.bc, .de, .xy, .sp].map (s.rpX x) =
       [join16 s.b s.c, join16 s.d s.e, s.xy x, s.sp]) ∧
     s.xy .ix = s.ix ∧ s.xy .iy = s.iy ∧
     (∀ x, s.half x .high = hi8 (s.xy x) ∧ s.half x .low = lo8 (s.xy x))) ∧
  (∀ (s : State) (v : Byte),
     s.setR8 .b v = { s with b := v } ∧ s.setR8 .c v = { s with c := v } ∧ s.setR8 .d v = { s with d := v } ∧
     s.setR8 .e v = { s with e := v } ∧ s.setR8 .h v = { s with h := v } ∧ s.setR8 .l v = { s with l := v } ∧
     s.setR8 .a v = { s with a := v } ∧
     (∀ x, s.setP8 x .b v = { s with b := v } ∧ s.setP8 x .c v = { s with c := v } ∧
       s.setP8 x .d v = { s with d := v } ∧ s.setP8 x .e v = { s with e := v } ∧
       s.setP8 x .a v = { s with a := v } ∧
       s.setP8 x .xh v = s.setHalf x .high v ∧ s.setP8 x .xl v = s.setHalf x .low v) ∧
     s.setHalf .ix .high v = { s with ix := join16 v (lo8 s.ix) } ∧
     s.setHalf .ix .low v = { s with ix := join16 (hi8 s.ix) v } ∧
     s.setHalf .iy .high v = { s with iy := join16 v (lo8 s.iy) } ∧
     s.setHalf .iy .low v = { s with iy := join16 (hi8 s.iy) v }) ∧
  (∀ (s : State) (v : Word),
     s.setRp .bc v = { s with b := hi8 v, c := lo8 v } ∧ s.setRp .de v = { s with d := hi8 v, e := lo8 v } ∧
     s.setRp .hl v = { s with h := hi8 v, l := lo8 v } ∧ s.setRp .sp v = { s with sp := v } ∧
     s.setRp2 .bc v = { s with b := hi8 v, c := lo8 v } ∧ s.setRp2 .de v = { s with d := hi8 v, e := lo8 v } ∧
     s.setRp2 .hl v = { s with h := hi8 v, l := lo8 v } ∧ s.setRp2 .af v = { s with a := hi8 v, f := lo8 v } ∧
     s.setBc v = { s with b := hi8 v, c := lo8 v } ∧ s.setDe v = { s with d := hi8 v, e := lo8 v } ∧
     s.setHl v = { s with h := hi8 v, l := lo8 v } ∧
     s.setXy .ix v = { s with ix := v } ∧ s.setXy .iy v = { s with iy := v })

/-- R136, R137, R141 to R143 as arithmetic, with R134 and R135: the results wrap, C is the carry or borrow, H
the carry or borrow between bits 3 and 4 (11 and 12), Z and S are the result's, bits 5 and 3 those of the result
or its high byte, P is two's complement overflow; ADD16 keeps S, Z and P. -/
def Obligations.AddSubArithmetic : Prop :=
  (∀ cin : Bool,
    (∀ a b : Byte,
      let (r, f) := add8 a b cin
      r = a + b + BitVec.ofNat 8 cin.toNat ∧
      (flagC f = true ↔ 256 ≤ a.toNat + b.toNat + cin.toNat) ∧
      (flagH f = true ↔ 16 ≤ a.toNat % 16 + b.toNat % 16 + cin.toNat) ∧
      (flagP f = true ↔ r.toInt ≠ a.toInt + b.toInt + cin.toNat) ∧
      (flagZ f = true ↔ r = 0#8) ∧ flagS f = r.msb ∧ f &&& 0x28#8 = r &&& 0x28#8 ∧ flagN f = false) ∧
    (∀ a b : Byte,
      let (r, f) := sub8 a b cin
      r = a - b - BitVec.ofNat 8 cin.toNat ∧
      (flagC f = true ↔ a.toNat < b.toNat + cin.toNat) ∧
      (flagH f = true ↔ a.toNat % 16 < b.toNat % 16 + cin.toNat) ∧
      (flagP f = true ↔ r.toInt ≠ a.toInt - b.toInt - cin.toNat) ∧
      (flagZ f = true ↔ r = 0#8) ∧ flagS f = r.msb ∧ f &&& 0x28#8 = r &&& 0x28#8 ∧ flagN f = true) ∧
    (∀ a b : Word,
      let (r, f) := adc16 a b cin
      r = a + b + BitVec.ofNat 16 cin.toNat ∧
      (flagC f = true ↔ 65536 ≤ a.toNat + b.toNat + cin.toNat) ∧
      (flagH f = true ↔ 4096 ≤ a.toNat % 4096 + b.toNat % 4096 + cin.toNat) ∧
      (flagP f = true ↔ r.toInt ≠ a.toInt + b.toInt + cin.toNat) ∧
      (flagZ f = true ↔ r = 0#16) ∧ flagS f = r.msb ∧ f &&& 0x28#8 = hi8 r &&& 0x28#8 ∧ flagN f = false) ∧
    (∀ a b : Word,
      let (r, f) := sbc16 a b cin
      r = a - b - BitVec.ofNat 16 cin.toNat ∧
      (flagC f = true ↔ a.toNat < b.toNat + cin.toNat) ∧
      (flagH f = true ↔ a.toNat % 4096 < b.toNat % 4096 + cin.toNat) ∧
      (flagP f = true ↔ r.toInt ≠ a.toInt - b.toInt - cin.toNat) ∧
      (flagZ f = true ↔ r = 0#16) ∧ flagS f = r.msb ∧ f &&& 0x28#8 = hi8 r &&& 0x28#8 ∧ flagN f = true)) ∧
  ∀ (a b : Word) (old : Byte),
    let (r, f) := add16 a b old
    r = a + b ∧
    (flagC f = true ↔ 65536 ≤ a.toNat + b.toNat) ∧
    (flagH f = true ↔ 4096 ≤ a.toNat % 4096 + b.toNat % 4096) ∧
    f &&& 0xC4#8 = old &&& 0xC4#8 ∧ f &&& 0x28#8 = hi8 r &&& 0x28#8 ∧ flagN f = false

/-! ## 8-bit loads (41_load_8bit.md) -/

/-- R171, R172, R185, R190: loads between registers and halves, and of an immediate. -/
def Obligations.LoadRegister8 : Prop :=
  ∀ s : State,
    (∀ r r', Reads [xyz 1#2 r.code r'.code] .documented (.ldRR r r') ∧
      Completes (.ldRR r r') s (s.setR8 r (s.r8 r')) s.peek []) ∧
    (∀ r n, Reads [xyz 0#2 r.code 6#3, n] .documented (.ldRN r n) ∧
      Completes (.ldRN r n) s (s.setR8 r n) s.peek []) ∧
    (∀ x hf p, Reads [x.lead, xyz 1#2 hf.code p.code] .undocumented (.ldHalfP x hf p) ∧
      Completes (.ldHalfP x hf p) s (s.setHalf x hf (s.p8 x p)) s.peek []) ∧
    (∀ x p hf, p ≠ .xh → p ≠ .xl → Reads [x.lead, xyz 1#2 p.code hf.code] .undocumented (.ldPHalf x p hf) ∧
      Completes (.ldPHalf x p hf) s (s.setP8 x p (s.half x hf)) s.peek []) ∧
    (∀ x n, Reads [x.lead, 0x26#8, n] .undocumented (.ldXyhN x n) ∧
      Completes (.ldXyhN x n) s (s.setXy x (join16 n (lo8 (s.xy x)))) s.peek []) ∧
    (∀ x n, Reads [x.lead, 0x2E#8, n] .undocumented (.ldXylN x n) ∧
      Completes (.ldXylN x n) s (s.setXy x (join16 (hi8 (s.xy x)) n)) s.peek [])

/-- R173, R174, R179, R180, R186: loads from memory; WZ as each rule says. -/
def Obligations.LoadFromMemory8 : Prop :=
  ∀ s : State, s.Quiet →
    (∀ r, Reads [xyz 1#2 r.code 6#3] .documented (.ldRAtHl r) ∧
      Completes (.ldRAtHl r) s (s.setR8 r (s.peek s.hl)) s.peek [.memRead s.hl (s.peek s.hl)]) ∧
    (∀ r x d, Reads [x.lead, xyz 1#2 r.code 6#3, d] .documented (.ldRAtXyd r x d) ∧
      Completes (.ldRAtXyd r x d) s ({ s with wz := s.xy x + sext8 d }.setR8 r (s.peek (s.xy x + sext8 d)))
        s.peek [.memRead (s.xy x + sext8 d) (s.peek (s.xy x + sext8 d))]) ∧
    (Reads [0x0A#8] .documented .ldAAtBc ∧
      Completes .ldAAtBc s { s with a := s.peek s.bc, wz := s.bc + 1#16 } s.peek
        [.memRead s.bc (s.peek s.bc)]) ∧
    (Reads [0x1A#8] .documented .ldAAtDe ∧
      Completes .ldAAtDe s { s with a := s.peek s.de, wz := s.de + 1#16 } s.peek
        [.memRead s.de (s.peek s.de)]) ∧
    (∀ nl nh, Reads [0x3A#8, nl, nh] .documented (.ldAAtNn (join16 nh nl)) ∧
      Completes (.ldAAtNn (join16 nh nl)) s
        { s with a := s.peek (join16 nh nl), wz := join16 nh nl + 1#16 } s.peek
        [.memRead (join16 nh nl) (s.peek (join16 nh nl))])

/-- R175 to R178, R187 to R189: stores, the stored byte and no other; WZ as each rule says. -/
def Obligations.StoreToMemory8 : Prop :=
  ∀ s : State, s.Quiet → s.Canonical →
    (∀ r, Reads [xyz 1#2 6#3 r.code] .documented (.ldAtHlR r) ∧
      Completes (.ldAtHlR r) s s (s.poked s.hl (s.r8 r)) [.memWrite s.hl (s.r8 r)]) ∧
    (∀ x d r, Reads [x.lead, xyz 1#2 6#3 r.code, d] .documented (.ldAtXydR x d r) ∧
      Completes (.ldAtXydR x d r) s { s with wz := s.xy x + sext8 d }
        (s.poked (s.xy x + sext8 d) (s.r8 r)) [.memWrite (s.xy x + sext8 d) (s.r8 r)]) ∧
    (∀ n, Reads [0x36#8, n] .documented (.ldAtHlN n) ∧
      Completes (.ldAtHlN n) s s (s.poked s.hl n) [.memWrite s.hl n]) ∧
    (∀ x d n, Reads [x.lead, 0x36#8, d, n] .documented (.ldAtXydN x d n) ∧
      Completes (.ldAtXydN x d n) s { s with wz := s.xy x + sext8 d }
        (s.poked (s.xy x + sext8 d) n) [.memWrite (s.xy x + sext8 d) n]) ∧
    (Reads [0x02#8] .documented .ldAtBcA ∧
      Completes .ldAtBcA s { s with wz := join16 s.a (s.c + 1#8) } (s.poked s.bc s.a)
        [.memWrite s.bc s.a]) ∧
    (Reads [0x12#8] .documented .ldAtDeA ∧
      Completes .ldAtDeA s { s with wz := join16 s.a (s.e + 1#8) } (s.poked s.de s.a)
        [.memWrite s.de s.a]) ∧
    (∀ nl nh, Reads [0x32#8, nl, nh] .documented (.ldAtNnA (join16 nh nl)) ∧
      Completes (.ldAtNnA (join16 nh nl)) s { s with wz := join16 s.a (nl + 1#8) }
        (s.poked (join16 nh nl) s.a) [.memWrite (join16 nh nl) s.a])

/-- R181 to R184: loads from and to I and R. PF from IFF2 is decision D30; R in `s` already counts this
instruction's own two fetches. -/
def Obligations.LoadInterruptRegs : Prop :=
  ∀ s : State, s.Quiet →
    (Reads [0xED#8, 0x57#8] .documented .ldAI ∧
      Completes .ldAI s
        { s with a := s.i, f := (s.f &&& 0x01#8) ||| sz53 s.i ||| (if s.iff2 then 0x04#8 else 0x00#8) }
        s.peek []) ∧
    (Reads [0xED#8, 0x5F#8] .documented .ldAR ∧
      Completes .ldAR s
        { s with a := s.r, f := (s.f &&& 0x01#8) ||| sz53 s.r ||| (if s.iff2 then 0x04#8 else 0x00#8) }
        s.peek []) ∧
    (Reads [0xED#8, 0x47#8] .documented .ldIA ∧ Completes .ldIA s { s with i := s.a } s.peek []) ∧
    (Reads [0xED#8, 0x4F#8] .documented .ldRA ∧ Completes .ldRA s { s with r := s.a } s.peek [])

/-! ## 16-bit loads (42_load_16bit.md) -/

/-- R200, R201, R208, R209. -/
def Obligations.LoadPair : Prop :=
  ∀ s : State, s.Quiet →
    (∀ p nl nh, Reads [xpqz 0#2 p.code 0#1 1#3, nl, nh] .documented (.ldDdNn p (join16 nh nl)) ∧
      Completes (.ldDdNn p (join16 nh nl)) s (s.setRp p (join16 nh nl)) s.peek []) ∧
    (∀ x nl nh, Reads [x.lead, 0x21#8, nl, nh] .documented (.ldXyNn x (join16 nh nl)) ∧
      Completes (.ldXyNn x (join16 nh nl)) s (s.setXy x (join16 nh nl)) s.peek []) ∧
    (Reads [0xF9#8] .documented .ldSpHl ∧ Completes .ldSpHl s { s with sp := s.hl } s.peek []) ∧
    (∀ x, Reads [x.lead, 0xF9#8] .documented (.ldSpXy x) ∧
      Completes (.ldSpXy x) s { s with sp := s.xy x } s.peek [])

/-- R202 to R207: a pair from and to memory, the low byte at `nn`, then the high byte at `nn + 1`; no other byte
written; WZ is `nn + 1`. -/
def Obligations.PairMemory : Prop :=
  (∀ (s : State) (nl nh : Byte), s.Quiet →
     let nn := join16 nh nl
     let ops := [.memRead nn (s.peek nn), .memRead (nn + 1#16) (s.peek (nn + 1#16))]
     let u := { s with wz := nn + 1#16 }
     (Reads [0x2A#8, nl, nh] .documented (.ldHlAtNn nn) ∧
       Completes (.ldHlAtNn nn) s (u.setHl (s.peek16 nn)) s.peek ops) ∧
     (∀ p, Reads [0xED#8, xpqz 1#2 p.code 1#1 3#3, nl, nh] .documented (.ldDdAtNn p nn) ∧
       Completes (.ldDdAtNn p nn) s (u.setRp p (s.peek16 nn)) s.peek ops) ∧
     (∀ x, Reads [x.lead, 0x2A#8, nl, nh] .documented (.ldXyAtNn x nn) ∧
       Completes (.ldXyAtNn x nn) s (u.setXy x (s.peek16 nn)) s.peek ops)) ∧
  (∀ (s : State) (nl nh : Byte), s.Quiet → s.Canonical →
     let nn := join16 nh nl
     let ops := fun v : Word => [BusOp.memWrite nn (lo8 v), .memWrite (nn + 1#16) (hi8 v)]
     let u := { s with wz := nn + 1#16 }
     (Reads [0x22#8, nl, nh] .documented (.ldAtNnHl nn) ∧
       Completes (.ldAtNnHl nn) s u (s.poked16 nn s.hl) (ops s.hl)) ∧
     (∀ p, Reads [0xED#8, xpqz 1#2 p.code 0#1 3#3, nl, nh] .documented (.ldAtNnDd nn p) ∧
       Completes (.ldAtNnDd nn p) s u (s.poked16 nn (s.rp p)) (ops (s.rp p))) ∧
     (∀ x, Reads [x.lead, 0x22#8, nl, nh] .documented (.ldAtNnXy nn x) ∧
       Completes (.ldAtNnXy nn x) s u (s.poked16 nn (s.xy x)) (ops (s.xy x))))

/-- R210 to R213: the high byte pushed first, at the higher address; the low byte popped first; all eight
bits of F. -/
def Obligations.PushPop : Prop :=
  ∀ s : State, s.Quiet → s.Canonical →
    let pushes := fun v : Word =>
      [BusOp.memWrite (s.sp - 1#16) (hi8 v), .memWrite (s.sp - 2#16) (lo8 v)]
    let down := { s with sp := s.sp - 2#16 }
    let pops := [BusOp.memRead s.sp (s.peek s.sp), .memRead (s.sp + 1#16) (s.peek (s.sp + 1#16))]
    let up := { s with sp := s.sp + 2#16 }
    (∀ q, Reads [xpqz 3#2 q.code 0#1 5#3] .documented (.pushQq q) ∧
      Completes (.pushQq q) s down (s.poked16 (s.sp - 2#16) (s.rp2 q)) (pushes (s.rp2 q))) ∧
    (∀ x, Reads [x.lead, 0xE5#8] .documented (.pushXy x) ∧
      Completes (.pushXy x) s down (s.poked16 (s.sp - 2#16) (s.xy x)) (pushes (s.xy x))) ∧
    (∀ q, Reads [xpqz 3#2 q.code 0#1 1#3] .documented (.popQq q) ∧
      Completes (.popQq q) s (up.setRp2 q (s.peek16 s.sp)) s.peek pops) ∧
    (∀ x, Reads [x.lead, 0xE1#8] .documented (.popXy x) ∧
      Completes (.popXy x) s (up.setXy x (s.peek16 s.sp)) s.peek pops)

/-! ## Exchange, block transfer, block search (43_exchange_block.md) -/

/-- R220 to R224: the register exchanges; the exchanges with the word at SP, which read low, read high, write
high, write low, leave SP and put the value read in WZ. -/
def Obligations.Exchanges : Prop :=
  (∀ s : State,
     (Reads [0xEB#8] .documented .exDeHl ∧
       Completes .exDeHl s { s with d := s.h, e := s.l, h := s.d, l := s.e } s.peek []) ∧
     (Reads [0x08#8] .documented .exAfAf ∧
       Completes .exAfAf s { s with a := hi8 s.af', f := lo8 s.af', af' := s.af } s.peek []) ∧
     (Reads [0xD9#8] .documented .exx ∧
       Completes .exx s
         { s with
           b := hi8 s.bc', c := lo8 s.bc', d := hi8 s.de', e := lo8 s.de', h := hi8 s.hl', l := lo8 s.hl'
           bc' := s.bc, de' := s.de, hl' := s.hl }
         s.peek [])) ∧
  (∀ s : State, s.Quiet → s.Canonical →
     let v := s.peek16 s.sp
     let ops := fun old : Word =>
       [BusOp.memRead s.sp (s.peek s.sp), .memRead (s.sp + 1#16) (s.peek (s.sp + 1#16)),
         .memWrite (s.sp + 1#16) (hi8 old), .memWrite s.sp (lo8 old)]
     (Reads [0xE3#8] .documented .exAtSpHl ∧
       Completes .exAtSpHl s ({ s with wz := v }.setHl v) (s.poked16 s.sp s.hl) (ops s.hl)) ∧
     (∀ x, Reads [x.lead, 0xE3#8] .documented (.exAtSpXy x) ∧
       Completes (.exAtSpXy x) s ({ s with wz := v }.setXy x v) (s.poked16 s.sp (s.xy x)) (ops (s.xy x))))

/-- R225, R227: one byte from HL to DE, the pointers, the counter, the flags. -/
def Obligations.BlockTransfer : Prop :=
  ∀ s : State, s.Quiet → s.Canonical →
    let t := s.peek s.hl
    let ops := [.memRead s.hl t, .memWrite s.de t]
    (Reads [0xED#8, 0xA0#8] .documented .ldi ∧ Completes .ldi s (s.afterLd 1#16) (s.poked s.de t) ops) ∧
    (Reads [0xED#8, 0xA8#8] .documented .ldd ∧
      Completes .ldd s (s.afterLd (0#16 - 1#16)) (s.poked s.de t) ops)

/-- R226, R228 (decision D22): one iteration; while the new BC is not zero PC goes back over the two bytes. -/
def Obligations.BlockTransferRepeat : Prop :=
  ∀ s : State, s.Quiet → s.Canonical →
    let t := s.peek s.hl
    let ops := [.memRead s.hl t, .memWrite s.de t]
    let again := fun u : State => if s.bc - 1#16 ≠ 0#16 then u.repeated else u
    (Reads [0xED#8, 0xB0#8] .documented .ldir ∧
      Completes .ldir s (again (s.afterLd 1#16)) (s.poked s.de t) ops) ∧
    (Reads [0xED#8, 0xB8#8] .documented .lddr ∧
      Completes .lddr s (again (s.afterLd (0#16 - 1#16))) (s.poked s.de t) ops)

/-- R229, R231: the byte at HL compared with A, the pointer, the counter, WZ, the flags. -/
def Obligations.BlockSearch : Prop :=
  ∀ s : State, s.Quiet →
    let ops := [.memRead s.hl (s.peek s.hl)]
    (Reads [0xED#8, 0xA1#8] .documented .cpi ∧ Completes .cpi s (s.afterCp 1#16) s.peek ops) ∧
    (Reads [0xED#8, 0xA9#8] .documented .cpd ∧ Completes .cpd s (s.afterCp (0#16 - 1#16)) s.peek ops)

/-- R230, R232 (decision D22): one iteration; while the new BC is not zero and the byte differs from A, PC
goes back over the two bytes. -/
def Obligations.BlockSearchRepeat : Prop :=
  ∀ s : State, s.Quiet →
    let ops := [.memRead s.hl (s.peek s.hl)]
    let again := fun u : State =>
      if s.bc - 1#16 ≠ 0#16 ∧ s.a ≠ s.peek s.hl then u.repeated else u
    (Reads [0xED#8, 0xB1#8] .documented .cpir ∧
      Completes .cpir s (again (s.afterCp 1#16)) s.peek ops) ∧
    (Reads [0xED#8, 0xB9#8] .documented .cpdr ∧
      Completes .cpdr s (again (s.afterCp (0#16 - 1#16))) s.peek ops)

/-! ## 8-bit arithmetic and logic (44_arith_logic_8bit.md, 40_alu_flag_tables.md) -/

/-- R241 to R244 with R240 and R251: ADD, ADC, SUB, SBC in the five operand forms. -/
def Obligations.AddSub : Prop :=
  AccForms 0#3 .addAR .addAAtHl .addAN .addAAtXyd .addAHalf (fun s v => s.withAF (add8 s.a v false)) ∧
  AccForms 1#3 .adcAR .adcAAtHl .adcAN .adcAAtXyd .adcAHalf (fun s v => s.withAF (add8 s.a v (flagC s.f))) ∧
  AccForms 2#3 .subR .subAtHl .subN .subAtXyd .subHalf (fun s v => s.withAF (sub8 s.a v false)) ∧
  AccForms 3#3 .sbcAR .sbcAAtHl .sbcAN .sbcAAtXyd .sbcAHalf (fun s v => s.withAF (sub8 s.a v (flagC s.f)))

/-- R245 to R248 with R240 and R251, R138, R139: AND, XOR, OR, CP in the five operand forms. -/
def Obligations.LogicCompare : Prop :=
  AccForms 4#3 .andR .andAtHl .andN .andAtXyd .andHalf
    (fun s v => s.withAF (s.a &&& v, sz53p (s.a &&& v) ||| 0x10#8)) ∧
  AccForms 5#3 .xorR .xorAtHl .xorN .xorAtXyd .xorHalf
    (fun s v => s.withAF (s.a ^^^ v, sz53p (s.a ^^^ v))) ∧
  AccForms 6#3 .orR .orAtHl .orN .orAtXyd .orHalf (fun s v => s.withAF (s.a ||| v, sz53p (s.a ||| v))) ∧
  AccForms 7#3 .cpR .cpAtHl .cpN .cpAtXyd .cpHalf
    (fun s v => { s with f := ((sub8 s.a v false).2 &&& ~~~0x28#8) ||| (v &&& 0x28#8) })

/-- R249, R253, R256 with R140: increment and decrement of a register or an index half; the other half is not
carried into. -/
def Obligations.IncDecRegister : Prop :=
  ∀ s : State,
    let incF := fun r : Byte =>
      (s.f &&& 0x01#8) ||| sz53 r ||| (if r &&& 0x0F#8 = 0x00#8 then 0x10#8 else 0x00#8) |||
        (if r = 0x80#8 then 0x04#8 else 0x00#8)
    let decF := fun r : Byte =>
      (s.f &&& 0x01#8) ||| sz53 r ||| (if r &&& 0x0F#8 = 0x0F#8 then 0x10#8 else 0x00#8) |||
        (if r = 0x7F#8 then 0x04#8 else 0x00#8) ||| 0x02#8
    (∀ r, Reads [xyz 0#2 r.code 4#3] .documented (.incR r) ∧
      Completes (.incR r) s ({ s with f := incF (s.r8 r + 1#8) }.setR8 r (s.r8 r + 1#8)) s.peek []) ∧
    (∀ r, Reads [xyz 0#2 r.code 5#3] .documented (.decR r) ∧
      Completes (.decR r) s ({ s with f := decF (s.r8 r - 1#8) }.setR8 r (s.r8 r - 1#8)) s.peek []) ∧
    (∀ x,
      let h := hi8 (s.xy x)
      let l := lo8 (s.xy x)
      (Reads [x.lead, 0x24#8] .undocumented (.incXyh x) ∧
        Completes (.incXyh x) s ({ s with f := incF (h + 1#8) }.setXy x (join16 (h + 1#8) l)) s.peek []) ∧
      (Reads [x.lead, 0x25#8] .undocumented (.decXyh x) ∧
        Completes (.decXyh x) s ({ s with f := decF (h - 1#8) }.setXy x (join16 (h - 1#8) l)) s.peek []) ∧
      (Reads [x.lead, 0x2C#8] .undocumented (.incXyl x) ∧
        Completes (.incXyl x) s ({ s with f := incF (l + 1#8) }.setXy x (join16 h (l + 1#8))) s.peek []) ∧
      (Reads [x.lead, 0x2D#8] .undocumented (.decXyl x) ∧
        Completes (.decXyl x) s ({ s with f := decF (l - 1#8) }.setXy x (join16 h (l - 1#8))) s.peek []))

/-- R250, R252, R254, R255 with R140: increment and decrement of a byte of memory. -/
def Obligations.IncDecMemory : Prop :=
  ∀ s : State, s.Quiet → s.Canonical →
    let incF := fun r : Byte =>
      (s.f &&& 0x01#8) ||| sz53 r ||| (if r &&& 0x0F#8 = 0x00#8 then 0x10#8 else 0x00#8) |||
        (if r = 0x80#8 then 0x04#8 else 0x00#8)
    let decF := fun r : Byte =>
      (s.f &&& 0x01#8) ||| sz53 r ||| (if r &&& 0x0F#8 = 0x0F#8 then 0x10#8 else 0x00#8) |||
        (if r = 0x7F#8 then 0x04#8 else 0x00#8) ||| 0x02#8
    let ops := fun (a : Word) (r : Byte) => [BusOp.memRead a (s.peek a), .memWrite a r]
    (let r := s.peek s.hl + 1#8
     Reads [0x34#8] .documented .incAtHl ∧
      Completes .incAtHl s { s with f := incF r } (s.poked s.hl r) (ops s.hl r)) ∧
    (let r := s.peek s.hl - 1#8
     Reads [0x35#8] .documented .decAtHl ∧
      Completes .decAtHl s { s with f := decF r } (s.poked s.hl r) (ops s.hl r)) ∧
    (∀ x d,
      let a := s.xy x + sext8 d
      let r := s.peek a + 1#8
      let q := s.peek a - 1#8
      (Reads [x.lead, 0x34#8, d] .documented (.incAtXyd x d) ∧
        Completes (.incAtXyd x d) s { s with f := incF r, wz := a } (s.poked a r) (ops a r)) ∧
      (Reads [x.lead, 0x35#8, d] .documented (.decAtXyd x d) ∧
        Completes (.decAtXyd x d) s { s with f := decF q, wz := a } (s.poked a q) (ops a q)))

/-! ## General-purpose arithmetic and control (45_general_control.md) -/

/-- R260 (decision D40), R263 and R264 (decision D21): `DAA` by its pseudocode, `CCF`, `SCF`. -/
def Obligations.AdjustAndCarry : Prop :=
  ∀ s : State,
    let low := flagH s.f = true ∨ 9 < (s.a &&& 0x0F#8).toNat
    let high := flagC s.f = true ∨ 0x99 < s.a.toNat
    let corr := (if low then 0x06#8 else 0x00#8) ||| (if high then 0x60#8 else 0x00#8)
    let rf := if flagN s.f then sub8 s.a corr false else add8 s.a corr false
    (Reads [0x27#8] .documented .daa ∧
      Completes .daa s
        { s with
          a := rf.1
          f := (rf.2 &&& 0xFA#8) ||| (if parity rf.1 then 0x04#8 else 0x00#8) |||
            (if high then 0x01#8 else 0x00#8) }
        s.peek []) ∧
    (Reads [0x3F#8] .documented .ccf ∧
      Completes .ccf s
        { s with f := (s.f &&& 0xC4#8) ||| (s.a &&& 0x28#8) ||| (if flagC s.f then 0x10#8 else 0x01#8) }
        s.peek []) ∧
    (Reads [0x37#8] .documented .scf ∧
      Completes .scf s { s with f := (s.f &&& 0xC4#8) ||| (s.a &&& 0x28#8) ||| 0x01#8 } s.peek [])

/-- `DAA` adjusts to packed BCD (R260, decision D40): after adding or subtracting two packed BCD bytes it
leaves the packed BCD of the sum or difference modulo 100, and C the decimal carry or borrow. -/
def Obligations.DecimalResult : Prop :=
  ∀ (s : State) (h1 l1 h2 l2 : Nat), h1 ≤ 9 → l1 ≤ 9 → h2 ≤ 9 → l2 ≤ 9 → ∀ cin : Bool,
    let x : Byte := BitVec.ofNat 8 (16 * h1 + l1)
    let y : Byte := BitVec.ofNat 8 (16 * h2 + l2)
    let bcd := fun n : Nat => BitVec.ofNat 8 (16 * (n / 10 % 10) + n % 10)
    let m := 10 * h1 + l1
    let n := 10 * h2 + l2 + cin.toNat
    (∃ t, exec .daa (s.withAF (add8 x y cin)) = .next t ∧ t.a = bcd (m + n) ∧
      (flagC t.f = true ↔ 100 ≤ m + n)) ∧
    (∃ t, exec .daa (s.withAF (sub8 x y cin)) = .next t ∧ t.a = bcd (m + 100 - n) ∧
      (flagC t.f = true ↔ m < n))

/-- R261, R262, R265, R266: `CPL`; `NEG` and the no operation in their documented and undocumented encodings. -/
def Obligations.ComplementNegateNop : Prop :=
  (∀ s : State,
     (Reads [0x2F#8] .documented .cpl ∧
       Completes .cpl s
         { s with a := ~~~s.a, f := (s.f &&& 0xC5#8) ||| 0x12#8 ||| (~~~s.a &&& 0x28#8) } s.peek []) ∧
     (Reads [0xED#8, 0x44#8] .documented .neg ∧
       Completes .neg s (s.withAF (sub8 0x00#8 s.a false)) s.peek []) ∧
     (∀ y, y ≠ 0#3 → Reads [0xED#8, xyz 1#2 y 4#3] .undocumented (.negY y) ∧
       Completes (.negY y) s (s.withAF (sub8 0x00#8 s.a false)) s.peek [])) ∧
  (∀ s : State,
     (Reads [0x00#8] .documented .nop ∧ Completes .nop s s s.peek []) ∧
     (Reads [0xED#8, 0x77#8] .undocumented (.nopEd 0#1) ∧ Completes (.nopEd 0#1) s s s.peek []) ∧
     (Reads [0xED#8, 0x7F#8] .undocumented (.nopEd 1#1) ∧ Completes (.nopEd 1#1) s s s.peek []))

/-- R268, R270 to R272 (decisions D7, D10, D27): `HALT`, `DI`, `EI`, `IM` in all its encodings. -/
def Obligations.InterruptControl : Prop :=
  ∀ s : State,
    (Reads [0x76#8] .documented .halt ∧ Completes .halt s { s with halted := true } s.peek []) ∧
    (Reads [0xF3#8] .documented .di ∧ Completes .di s { s with iff1 := false, iff2 := false } s.peek []) ∧
    (Reads [0xFB#8] .documented .ei ∧
      Completes .ei s { s with iff1 := true, iff2 := true, irqDelay := true } s.peek []) ∧
    (Reads [0xED#8, 0x46#8] .documented .im0 ∧ Completes .im0 s { s with im := .im0 } s.peek []) ∧
    (Reads [0xED#8, 0x56#8] .documented .im1 ∧ Completes .im1 s { s with im := .im1 } s.peek []) ∧
    (Reads [0xED#8, 0x5E#8] .documented .im2 ∧ Completes .im2 s { s with im := .im2 } s.peek []) ∧
    (∀ y, y = 1#3 ∨ y = 4#3 ∨ y = 5#3 → Reads [0xED#8, xyz 1#2 y 6#3] .undocumented (.imY y) ∧
      Completes (.imY y) s { s with im := .im0 } s.peek []) ∧
    (Reads [0xED#8, 0x76#8] .undocumented (.imY 6#3) ∧
      Completes (.imY 6#3) s { s with im := .im1 } s.peek []) ∧
    (Reads [0xED#8, 0x7E#8] .undocumented (.imY 7#3) ∧
      Completes (.imY 7#3) s { s with im := .im2 } s.peek [])

/-! ## 16-bit arithmetic (46_arith_16bit.md) -/

/-- R280 to R287 with R141 to R143: the additions put the old register plus 1 in WZ; increment and decrement
wrap modulo 65536 and write no flag. -/
def Obligations.PairArithmetic : Prop :=
  (∀ s : State, s.Quiet →
     let hl := fun rf : Word × Byte => { s with wz := s.hl + 1#16, f := rf.2 }.setHl rf.1
     (∀ p, Reads [xpqz 0#2 p.code 1#1 1#3] .documented (.addHlSs p) ∧
       Completes (.addHlSs p) s (hl (add16 s.hl (s.rp p) s.f)) s.peek []) ∧
     (∀ p, Reads [0xED#8, xpqz 1#2 p.code 1#1 2#3] .documented (.adcHlSs p) ∧
       Completes (.adcHlSs p) s (hl (adc16 s.hl (s.rp p) (flagC s.f))) s.peek []) ∧
     (∀ p, Reads [0xED#8, xpqz 1#2 p.code 0#1 2#3] .documented (.sbcHlSs p) ∧
       Completes (.sbcHlSs p) s (hl (sbc16 s.hl (s.rp p) (flagC s.f))) s.peek []) ∧
     (∀ x p, Reads [x.lead, xpqz 0#2 p.code 1#1 1#3] .documented (.addXyPp x p) ∧
       Completes (.addXyPp x p) s
         ({ s with wz := s.xy x + 1#16, f := (add16 (s.xy x) (s.rpX x p) s.f).2 }.setXy x
           (s.xy x + s.rpX x p)) s.peek [])) ∧
  (∀ s : State, s.Quiet →
     (∀ p, Reads [xpqz 0#2 p.code 0#1 3#3] .documented (.incSs p) ∧
       Completes (.incSs p) s (s.setRp p (s.rp p + 1#16)) s.peek []) ∧
     (∀ x, Reads [x.lead, 0x23#8] .documented (.incXy x) ∧
       Completes (.incXy x) s (s.setXy x (s.xy x + 1#16)) s.peek []) ∧
     (∀ p, Reads [xpqz 0#2 p.code 1#1 3#3] .documented (.decSs p) ∧
       Completes (.decSs p) s (s.setRp p (s.rp p - 1#16)) s.peek []) ∧
     (∀ x, Reads [x.lead, 0x2B#8] .documented (.decXy x) ∧
       Completes (.decXy x) s (s.setXy x (s.xy x - 1#16)) s.peek []))

/-! ## Rotates, shifts, bits (47_rotate_shift_bit.md) -/

/-- R290 to R293: the accumulator rotates, S, Z and P kept. -/
def Obligations.AccumulatorRotates : Prop :=
  ∀ s : State,
    let c := flagC s.f
    let u := fun (r : Byte) (out : Bool) =>
      { s with
        a := r, f := (s.f &&& 0xC4#8) ||| (r &&& 0x28#8) ||| (if out then 0x01#8 else 0x00#8) }
    (Reads [0x07#8] .documented .rlca ∧
      Completes .rlca s (u (s.a.rotateLeft 1) (s.a.getLsbD 7)) s.peek []) ∧
    (Reads [0x0F#8] .documented .rrca ∧
      Completes .rrca s (u (s.a.rotateRight 1) (s.a.getLsbD 0)) s.peek []) ∧
    (Reads [0x17#8] .documented .rla ∧
      Completes .rla s (u ((s.a <<< 1) ||| (if c then 0x01#8 else 0x00#8)) (s.a.getLsbD 7)) s.peek []) ∧
    (Reads [0x1F#8] .documented .rra ∧
      Completes .rra s (u ((s.a >>> 1) ||| (if c then 0x80#8 else 0x00#8)) (s.a.getLsbD 0)) s.peek [])

/-- R294 with R295 to R302: rotates and shifts of a register and of the byte at HL. -/
def Obligations.RotateOperand : Prop :=
  RotForms .rlc 0#3 .documented .rlcR .rlcAtHl ∧
  RotForms .rrc 1#3 .documented .rrcR .rrcAtHl ∧
  RotForms .rl 2#3 .documented .rlR .rlAtHl ∧
  RotForms .rr 3#3 .documented .rrR .rrAtHl ∧
  RotForms .sla 4#3 .documented .slaR .slaAtHl ∧
  RotForms .sra 5#3 .documented .sraR .sraAtHl ∧
  RotForms .sll 6#3 .undocumented .sllR .sllAtHl ∧
  RotForms .srl 7#3 .documented .srlR .srlAtHl

/-- R307 with R295 to R302 (decision D38): the indexed forms, with and without the copy to a register. -/
def Obligations.RotateIndexed : Prop :=
  RotFormsXy .rlc 0#3 .documented .rlcAtXyd .rlcAtXydR ∧
  RotFormsXy .rrc 1#3 .documented .rrcAtXyd .rrcAtXydR ∧
  RotFormsXy .rl 2#3 .documented .rlAtXyd .rlAtXydR ∧
  RotFormsXy .rr 3#3 .documented .rrAtXyd .rrAtXydR ∧
  RotFormsXy .sla 4#3 .documented .slaAtXyd .slaAtXydR ∧
  RotFormsXy .sra 5#3 .documented .sraAtXyd .sraAtXydR ∧
  RotFormsXy .sll 6#3 .undocumented .sllAtXyd .sllAtXydR ∧
  RotFormsXy .srl 7#3 .documented .srlAtXyd .srlAtXydR

/-- R305, R306: the digit rotates through A and the byte at HL. -/
def Obligations.DigitRotates : Prop :=
  ∀ s : State, s.Quiet → s.Canonical →
    let t := s.peek s.hl
    let u := fun a : Byte => { s with a := a, f := (s.f &&& 0x01#8) ||| sz53p a, wz := s.hl + 1#16 }
    (Reads [0xED#8, 0x6F#8] .documented .rld ∧
      Completes .rld s (u ((s.a &&& 0xF0#8) ||| (t >>> 4)))
        (s.poked s.hl ((t <<< 4) ||| (s.a &&& 0x0F#8)))
        [.memRead s.hl t, .memWrite s.hl ((t <<< 4) ||| (s.a &&& 0x0F#8))]) ∧
    (Reads [0xED#8, 0x67#8] .documented .rrd ∧
      Completes .rrd s (u ((s.a &&& 0xF0#8) ||| (t &&& 0x0F#8)))
        (s.poked s.hl ((s.a <<< 4) ||| (t >>> 4)))
        [.memRead s.hl t, .memWrite s.hl ((s.a <<< 4) ||| (t >>> 4))])

/-- R310, R312, R314 with R294 and R146: bit test, set and reset of a register and of the byte at HL. The test
takes bits 5 and 3 of F from the register or from the high byte of WZ; set and reset write no flag. -/
def Obligations.BitOperations : Prop :=
  (∀ (s : State) (b : BitNo), s.Quiet →
     let f := fun v yx : Byte =>
       (s.f &&& 0x01#8) ||| 0x10#8 ||| (yx &&& 0x28#8) |||
         (if v.getLsbD b.toNat then (if b = 7#3 then 0x80#8 else 0x00#8) else 0x44#8)
     (∀ r, Reads [0xCB#8, xyz 1#2 b r.code] .documented (.bitBR b r) ∧
       Completes (.bitBR b r) s { s with f := f (s.r8 r) (s.r8 r) } s.peek []) ∧
     (Reads [0xCB#8, xyz 1#2 b 6#3] .documented (.bitBAtHl b) ∧
       Completes (.bitBAtHl b) s { s with f := f (s.peek s.hl) (hi8 s.wz) } s.peek
         [.memRead s.hl (s.peek s.hl)])) ∧
  (∀ (s : State) (b : BitNo), s.Quiet → s.Canonical →
     let on := fun v : Byte => v ||| (0x01#8 <<< b.toNat)
     let off := fun v : Byte => v &&& ~~~(0x01#8 <<< b.toNat)
     let v := s.peek s.hl
     (∀ r, Reads [0xCB#8, xyz 3#2 b r.code] .documented (.setBR b r) ∧
       Completes (.setBR b r) s (s.setR8 r (on (s.r8 r))) s.peek []) ∧
     (Reads [0xCB#8, xyz 3#2 b 6#3] .documented (.setBAtHl b) ∧
       Completes (.setBAtHl b) s s (s.poked s.hl (on v)) [.memRead s.hl v, .memWrite s.hl (on v)]) ∧
     (∀ r, Reads [0xCB#8, xyz 2#2 b r.code] .documented (.resBR b r) ∧
       Completes (.resBR b r) s (s.setR8 r (off (s.r8 r))) s.peek []) ∧
     (Reads [0xCB#8, xyz 2#2 b 6#3] .documented (.resBAtHl b) ∧
       Completes (.resBAtHl b) s s (s.poked s.hl (off v)) [.memRead s.hl v, .memWrite s.hl (off v)]))

/-- R311, R313 (decision D38): the indexed bit test, alike for all eight values of `z`; the indexed set and
reset, with and without the copy to a register. -/
def Obligations.BitIndexed : Prop :=
  (∀ (s : State) (b : BitNo) (x : Idx) (d : Byte), s.Quiet →
     let a := s.xy x + sext8 d
     let v := s.peek a
     let u := { s with
       wz := a
       f := (s.f &&& 0x01#8) ||| 0x10#8 ||| (hi8 a &&& 0x28#8) |||
         (if v.getLsbD b.toNat then (if b = 7#3 then 0x80#8 else 0x00#8) else 0x44#8) }
     (Reads [x.lead, 0xCB#8, d, xyz 1#2 b 6#3] .documented (.bitBAtXyd b x d) ∧
       Completes (.bitBAtXyd b x d) s u s.peek [.memRead a v]) ∧
     (∀ z, z ≠ 6#3 → Reads [x.lead, 0xCB#8, d, xyz 1#2 b z] .undocumented (.bitBAtXydZ b x d z) ∧
       Completes (.bitBAtXydZ b x d z) s u s.peek [.memRead a v])) ∧
  (∀ (s : State) (b : BitNo) (x : Idx) (d : Byte), s.Quiet → s.Canonical →
     let a := s.xy x + sext8 d
     let v := s.peek a
     let on := v ||| (0x01#8 <<< b.toNat)
     let off := v &&& ~~~(0x01#8 <<< b.toNat)
     let u := { s with wz := a }
     (Reads [x.lead, 0xCB#8, d, xyz 3#2 b 6#3] .documented (.setBAtXyd b x d) ∧
       Completes (.setBAtXyd b x d) s u (s.poked a on) [.memRead a v, .memWrite a on]) ∧
     (∀ r, Reads [x.lead, 0xCB#8, d, xyz 3#2 b r.code] .undocumented (.setBAtXydR b x d r) ∧
       Completes (.setBAtXydR b x d r) s (u.setR8 r on) (s.poked a on) [.memRead a v, .memWrite a on]) ∧
     (Reads [x.lead, 0xCB#8, d, xyz 2#2 b 6#3] .documented (.resBAtXyd b x d) ∧
       Completes (.resBAtXyd b x d) s u (s.poked a off) [.memRead a v, .memWrite a off]) ∧
     (∀ r, Reads [x.lead, 0xCB#8, d, xyz 2#2 b r.code] .undocumented (.resBAtXydR b x d r) ∧
       Completes (.resBAtXydR b x d r) s (u.setR8 r off) (s.poked a off) [.memRead a v, .memWrite a off]))

/-! ## Jumps, calls, returns (48_jump_call_return.md) -/

/-- R320 to R322, R325: absolute jumps; WZ takes the operand whether or not the jump is taken. -/
def Obligations.Jumps : Prop :=
  ∀ s : State,
    (∀ nl nh, Reads [0xC3#8, nl, nh] .documented (.jpNn (join16 nh nl)) ∧
      Completes (.jpNn (join16 nh nl)) s { s with pc := join16 nh nl, wz := join16 nh nl } s.peek []) ∧
    (∀ cc nl nh, Reads [xyz 3#2 cc.code 2#3, nl, nh] .documented (.jpCcNn cc (join16 nh nl)) ∧
      Completes (.jpCcNn cc (join16 nh nl)) s
        { s with pc := if s.cond cc then join16 nh nl else s.pc, wz := join16 nh nl } s.peek []) ∧
    (Reads [0xE9#8] .documented .jpHl ∧ Completes .jpHl s { s with pc := s.hl } s.peek []) ∧
    (∀ x, Reads [x.lead, 0xE9#8] .documented (.jpXy x) ∧
      Completes (.jpXy x) s { s with pc := s.xy x } s.peek [])

/-- R323 (its wrap is decision D16), R324, R326: relative jumps from the address after the displacement; WZ is
the target when taken. First, what `sext_8` is and where the displacement of an indexed address goes (00_scope.md
R5, 30_encoding.md R97): a byte below 0x80 is added, one from 0x80 on is added minus 256. -/
def Obligations.RelativeJumps : Prop :=
  (∀ e : Byte, (sext8 e).toInt = e.toInt ∧
    sext8 e = if e.toNat < 0x80 then BitVec.ofNat 16 e.toNat else BitVec.ofNat 16 e.toNat - 256#16) ∧
  (∀ (s : State) (x : Idx) (d : Byte), s.xydAddr x d = s.xy x + sext8 d) ∧
  ∀ (s : State) (e : Byte), s.Quiet →
    let target := s.pc + sext8 e
    let jump := fun (u : State) (taken : Bool) => if taken then { u with pc := target, wz := target } else u
    (Reads [0x18#8, e] .documented (.jr e) ∧ Completes (.jr e) s (jump s true) s.peek []) ∧
    (∀ cc, Reads [xyz 0#2 cc.code 0#3, e] .documented (.jrCc cc e) ∧
      Completes (.jrCc cc e) s (jump s (s.condJr cc)) s.peek []) ∧
    (Reads [0x10#8, e] .documented (.djnz e) ∧
      Completes (.djnz e) s (jump { s with b := s.b - 1#8 } (s.b != 1#8)) s.peek [])

/-- R327 to R330, R335: the address of the next instruction is pushed high byte first and popped low byte first;
an untaken call pushes nothing, an untaken return does nothing. -/
def Obligations.CallsReturns : Prop :=
  (∀ s : State, s.Quiet → s.Canonical →
     let m := s.poked16 (s.sp - 2#16) s.pc
     let ops := [.memWrite (s.sp - 1#16) (hi8 s.pc), .memWrite (s.sp - 2#16) (lo8 s.pc)]
     let u := fun target : Word => { s with sp := s.sp - 2#16, pc := target, wz := target }
     (∀ nl nh, Reads [0xCD#8, nl, nh] .documented (.callNn (join16 nh nl)) ∧
       Completes (.callNn (join16 nh nl)) s (u (join16 nh nl)) m ops) ∧
     (∀ cc nl nh, Reads [xyz 3#2 cc.code 4#3, nl, nh] .documented (.callCcNn cc (join16 nh nl)) ∧
       (s.cond cc = true → Completes (.callCcNn cc (join16 nh nl)) s (u (join16 nh nl)) m ops) ∧
       (s.cond cc = false →
         Completes (.callCcNn cc (join16 nh nl)) s { s with wz := join16 nh nl } s.peek [])) ∧
     (∀ y, Reads [xyz 3#2 y 7#3] .documented (.rstP y) ∧
       Completes (.rstP y) s (u (BitVec.ofNat 16 (8 * y.toNat))) m ops)) ∧
  (∀ s : State, s.Quiet →
     let v := s.peek16 s.sp
     let u := { s with sp := s.sp + 2#16, pc := v, wz := v }
     let ops := [.memRead s.sp (s.peek s.sp), .memRead (s.sp + 1#16) (s.peek (s.sp + 1#16))]
     (Reads [0xC9#8] .documented .ret ∧ Completes .ret s u s.peek ops) ∧
     (∀ cc, Reads [xyz 3#2 cc.code 0#3] .documented (.retCc cc) ∧
       (s.cond cc = true → Completes (.retCc cc) s u s.peek ops) ∧
       (s.cond cc = false → Completes (.retCc cc) s s s.peek [])))

/-- R333, R334 (decisions D10, D11): `RETN` in all its encodings and `RETI` pop PC and restore IFF1 from IFF2;
the accept delay is not set. -/
def Obligations.ReturnsFromHandler : Prop :=
  ∀ s : State, s.Quiet →
    let v := s.peek16 s.sp
    let u := { s with sp := s.sp + 2#16, pc := v, wz := v, iff1 := s.iff2 }
    let ops := [.memRead s.sp (s.peek s.sp), .memRead (s.sp + 1#16) (s.peek (s.sp + 1#16))]
    (Reads [0xED#8, 0x45#8] .documented .retn ∧ Completes .retn s u s.peek ops) ∧
    (∀ y, y ≠ 0#3 → y ≠ 1#3 → Reads [0xED#8, xyz 1#2 y 5#3] .undocumented (.retnY y) ∧
      Completes (.retnY y) s u s.peek ops) ∧
    (Reads [0xED#8, 0x4D#8] .documented .reti ∧ Completes .reti s u s.peek ops)

/-! ## Input and output (49_input_output.md) -/

/-- R341 to R346 (port addresses by decision D24). `s.portAnswer` is what the environment answers, its next
ready byte or else a free value, and the state that leaves (log entry 3). -/
def Obligations.InputOutput : Prop :=
  (∀ s : State,
    (∀ v rest, s.portIn = v :: rest → s.portAnswer = (v, { s with portIn := rest })) ∧
    (s.portIn = [] →
      s.portAnswer = (Config.freePortByte s.freeCount, { s with freeCount := s.freeCount + 1 }))) ∧
  ∀ s : State, s.Quiet →
    let v := s.portAnswer.1
    let s' := s.portAnswer.2
    let f := (s.f &&& 0x01#8) ||| sz53p v
    (∀ n, Reads [0xDB#8, n] .documented (.inAN n) ∧
      Completes (.inAN n) s { s' with a := v, wz := join16 s.a n + 1#16 } s.peek
        [.portRead (join16 s.a n) v]) ∧
    (∀ r, Reads [0xED#8, xyz 1#2 r.code 0#3] .documented (.inRC r) ∧
      Completes (.inRC r) s ({ s' with f := f, wz := s.bc + 1#16 }.setR8 r v) s.peek
        [.portRead s.bc v]) ∧
    (Reads [0xED#8, 0x70#8] .undocumented .inFC ∧
      Completes .inFC s { s' with f := f, wz := s.bc + 1#16 } s.peek [.portRead s.bc v]) ∧
    (∀ n, Reads [0xD3#8, n] .documented (.outNA n) ∧
      Completes (.outNA n) s { s with wz := join16 s.a (n + 1#8) } s.peek
        [.portWrite (join16 s.a n) s.a]) ∧
    (∀ r, Reads [0xED#8, xyz 1#2 r.code 1#3] .documented (.outCR r) ∧
      Completes (.outCR r) s { s with wz := s.bc + 1#16 } s.peek [.portWrite s.bc (s.r8 r)]) ∧
    (Reads [0xED#8, 0x71#8] .undocumented .outC0 ∧
      Completes .outC0 s { s with wz := s.bc + 1#16 } s.peek [.portWrite s.bc 0x00#8])

/-- R348 to R355 with R347, its flag formula written out in blockPortFlags (decisions D22, D24, D39): input uses B before the decrement for the port address
and WZ, output after it; the repeating forms go back over the two bytes while the new B is not zero. -/
def Obligations.BlockInputOutput : Prop :=
  (∀ s : State, s.Quiet → s.Canonical →
     let v := s.portAnswer.1
     let up := s.portAnswer.2.afterIn v 1#16 1#8
     let down := s.portAnswer.2.afterIn v (0#16 - 1#16) (0#8 - 1#8)
     let again := fun u : State => if s.b - 1#8 ≠ 0#8 then { u with pc := u.pc - 2#16 } else u
     let m := s.poked s.hl v
     let ops := [.portRead s.bc v, .memWrite s.hl v]
     (Reads [0xED#8, 0xA2#8] .documented .ini ∧ Completes .ini s up m ops) ∧
     (Reads [0xED#8, 0xAA#8] .documented .ind ∧ Completes .ind s down m ops) ∧
     (Reads [0xED#8, 0xB2#8] .documented .inir ∧ Completes .inir s (again up) m ops) ∧
     (Reads [0xED#8, 0xBA#8] .documented .indr ∧ Completes .indr s (again down) m ops)) ∧
  (∀ s : State, s.Quiet →
     let t := s.peek s.hl
     let up := s.afterOut 1#16
     let down := s.afterOut (0#16 - 1#16)
     let again := fun u : State => if s.b - 1#8 ≠ 0#8 then { u with pc := u.pc - 2#16 } else u
     let ops := [.memRead s.hl t, .portWrite (join16 (s.b - 1#8) s.c) t]
     (Reads [0xED#8, 0xA3#8] .documented .outi ∧ Completes .outi s up s.peek ops) ∧
     (Reads [0xED#8, 0xAB#8] .documented .outd ∧ Completes .outd s down s.peek ops) ∧
     (Reads [0xED#8, 0xB3#8] .documented .otir ∧ Completes .otir s (again up) s.peek ops) ∧
     (Reads [0xED#8, 0xBB#8] .documented .otdr ∧ Completes .otdr s (again down) s.peek ops))

/-! ## Every environment (00_scope.md R10) -/

/-- "External components may only set request bits ... and may only read via the bus contract" (R10; 20_memory.md
R67). Whatever the environment does inside an instruction, the registers it leaves and the operations it issues
are those of a quiet environment in which memory holds what the bus answered; inside a boundary the same is true
but for the request bits, and for the vector of mode 2, which is what the bus answered. -/
def Obligations.EnvironmentOnlyAnswers : Prop :=
  (∀ (i : Instr) (s t : State), exec i s = .next t →
     ∃ m : Memory, m.wf = true ∧
       ∃ u, exec i { s with mem := m, inside := [] } = .next u ∧ SameCore t u ∧ t.bus = u.bus) ∧
  (∀ s : State,
     let quiet := ({ s with inside := [] } : State).boundary
     let vectored := s.req.reset = false ∧ s.req.nmiDebug = false ∧ s.req.nmiOther = false ∧
       (s.req.irqA = true ∨ s.req.irqB = true) ∧ s.iff1 = true ∧ s.irqDelay = false ∧ s.im = .im2
     let v := join16 s.i Config.im2Low
     EnvStep { s.boundary with req := quiet.req, inside := s.inside } s.boundary ∧
     (¬ vectored → SameCore s.boundary quiet ∧ s.boundary.bus = quiet.bus) ∧
     (vectored → ∃ lo hi, SameCore s.boundary { quiet with pc := join16 hi lo, wz := join16 hi lo } ∧
       s.boundary.bus =
         [.memRead (v + 1#16) hi, .memRead v lo, .memWrite (s.sp - 2#16) (lo8 s.pc),
           .memWrite (s.sp - 1#16) (hi8 s.pc)] ++ s.bus))

end
end

