-- ==== Sys2Proof/Laws/Decode.lean ====
section
/-! SUPPORT. The fields of an opcode byte and the selector tables: each selector undoes the encoder's index. -/

namespace Sys2Proof

/-! ## Bytes of a list -/

@[simp] theorem byteAt_zero (b : Byte) (l : List Byte) : byteAt (b :: l) 0 = b := rfl

@[simp] theorem byteAt_succ (b : Byte) (l : List Byte) (n : Nat) : byteAt (b :: l) (n + 1) = byteAt l n := rfl

@[simp] theorem byteAt_one (b b' : Byte) (l : List Byte) : byteAt (b :: b' :: l) 1 = b' := rfl

@[simp] theorem byteAt_two (b b' c : Byte) (l : List Byte) : byteAt (b :: b' :: c :: l) 2 = c := rfl

@[simp] theorem byteAt_three (b b' c c' : Byte) (l : List Byte) :
    byteAt (b :: b' :: c :: c' :: l) 3 = c' := rfl

/-! ## Fields -/

@[simp] theorem fieldX_xyz : ∀ x y z, fieldX (xyz x y z) = x.toNat := by decide +kernel

@[simp] theorem fieldY_xyz : ∀ x y z, fieldY (xyz x y z) = y.toNat := by decide +kernel

@[simp] theorem fieldZ_xyz : ∀ x y z, fieldZ (xyz x y z) = z.toNat := by decide +kernel

@[simp] theorem extract_y_xyz : ∀ x y z, (xyz x y z).extractLsb' 3 3 = y := by decide +kernel

@[simp] theorem extract_z_xyz : ∀ x y z, (xyz x y z).extractLsb' 0 3 = z := by decide +kernel

@[simp] theorem fieldX_xpqz : ∀ x p q z, fieldX (xpqz x p q z) = x.toNat := by decide +kernel

@[simp] theorem fieldP_xpqz : ∀ x p q z, fieldP (xpqz x p q z) = p.toNat := by decide +kernel

@[simp] theorem fieldQ_xpqz : ∀ x p q z, fieldQ (xpqz x p q z) = q.toNat := by decide +kernel

@[simp] theorem fieldZ_xpqz : ∀ x p q z, fieldZ (xpqz x p q z) = z.toNat := by decide +kernel

@[simp] theorem fieldY_xpqz : ∀ x p q z, fieldY (xpqz x p q z) = 2 * p.toNat + q.toNat := by decide +kernel

/-- An opcode byte is its three fields. -/
theorem xyz_fields : ∀ op : Byte,
    xyz (BitVec.ofNat 2 (fieldX op)) (BitVec.ofNat 3 (fieldY op)) (BitVec.ofNat 3 (fieldZ op)) = op := by
  decide +kernel

/-! ## Selectors -/

@[simp] theorem selR8_code (r : Reg8) : selR8 r.code.toNat = some r := by cases r <;> rfl

@[simp] theorem selP8_code (p : Reg8X) : selP8 p.code.toNat = some p := by cases p <;> rfl

@[simp] theorem selHalf_code (hf : Half) : selHalf hf.code.toNat = some hf := by cases hf <;> rfl

@[simp] theorem selRp_code (p : Rp) : selRp p.code.toNat = p := by cases p <;> rfl

@[simp] theorem selRp2_code (p : Rp2) : selRp2 p.code.toNat = p := by cases p <;> rfl

@[simp] theorem selRpX_code (p : RpX) : selRpX p.code.toNat = p := by cases p <;> rfl

@[simp] theorem selCond_code (cc : Cond) : selCond cc.code.toNat = cc := by cases cc <;> rfl

/-- The register of an index other than 6 has that index. -/
theorem code_selR8 {n : Nat} {r : Reg8} (h : selR8 n = some r) : r.code.toNat = n := by
  unfold selR8 at h
  split at h <;> cases h <;> rfl

/-- Index 6 of `r8` names no register. -/
theorem selR8_none {n : Nat} (hn : n < 8) : selR8 n = none ↔ n = 6 := by
  have h : ∀ k : Fin 8, selR8 k.val = none ↔ k.val = 6 := by decide
  exact h ⟨n, hn⟩

/-! ## The dispatcher, table by table -/

/-- Every class of a row is in the default `IMPL` (R4). -/
theorem impl_has_klass (i : Instr) : Config.impl.has i.klass = true := by
  cases i <;> rfl

theorem admitted_impl (bytes : List Byte) (i : Instr) :
    admitted Config.impl bytes i = .ok { instr := i, redundant := false } := by
  rw [admitted, if_pos (impl_has_klass i)]

/-- The first byte selects the main table unless it is one of the four prefixes (R92, R98). -/
theorem decode_main {op b1 b2 b3 : Byte} {i : Instr}
    (h : op ≠ 0xCB#8 ∧ op ≠ 0xED#8 ∧ op ≠ 0xDD#8 ∧ op ≠ 0xFD#8) (hi : mainTable op b1 b2 = some i) :
    decode { b0 := op, b1 := b1, b2 := b2, b3 := b3 } = .ok { instr := i, redundant := false } := by
  simp only [decode, decodeWith, if_neg h.1, if_neg h.2.1, if_neg h.2.2.1, if_neg h.2.2.2, hi,
    admitted_impl]

/-- 0xCB selects the CB table (R99). -/
theorem decode_cb (op b2 b3 : Byte) :
    decode { b0 := 0xCB#8, b1 := op, b2 := b2, b3 := b3 } =
      .ok { instr := cbTable op, redundant := false } := by
  simp only [decode, decodeWith, if_true, admitted_impl]

/-- 0xED selects the ED table (R100). -/
theorem decode_ed {op b2 b3 : Byte} {i : Instr} (hi : edTable op b2 b3 = some i) :
    decode { b0 := 0xED#8, b1 := op, b2 := b2, b3 := b3 } = .ok { instr := i, redundant := false } := by
  simp only [decode, decodeWith, if_neg (show (0xED#8 : Byte) ≠ 0xCB#8 by decide), if_true, hi,
    admitted_impl]

/-- 0xDD and 0xFD select the tables of IX and IY (R92, R101, R102, R105). -/
theorem decode_lead (x : Idx) (b1 b2 b3 : Byte) :
    decode { b0 := x.lead, b1 := b1, b2 := b2, b3 := b3 } =
      decodeXy Config.impl x { b0 := x.lead, b1 := b1, b2 := b2, b3 := b3 } := by
  cases x <;> simp [decode, decodeWith, Idx.lead]

/-- A byte with an index form, after 0xDD or 0xFD (R101). -/
theorem decode_xy {x : Idx} {op b2 b3 : Byte} {i : Instr}
    (h : op ≠ 0xCB#8 ∧ op ≠ 0xED#8 ∧ op ≠ 0xDD#8 ∧ op ≠ 0xFD#8) (hi : xyTable x op b2 b3 = some i) :
    decode { b0 := x.lead, b1 := op, b2 := b2, b3 := b3 } = .ok { instr := i, redundant := false } := by
  simp [decode_lead, decodeXy, h, hi, admitted_impl]

/-- The final byte after 0xDD 0xCB or 0xFD 0xCB and the displacement (R102). -/
theorem decode_xycb (x : Idx) (d op : Byte) :
    decode { b0 := x.lead, b1 := 0xCB#8, b2 := d, b3 := op } =
      .ok { instr := xycbTable x d op, redundant := false } := by
  simp [decode_lead, decodeXy, admitted_impl]

end Sys2Proof
end

