-- ==== Sys2Proof/Laws/Flags.lean ====
section
/-! SUPPORT. The bits of a flag byte: how the formulas of 40_alu_flag_tables.md are read flag by flag. -/

namespace Sys2Proof.Machine

/-- A byte is determined by its eight flags (10_state.md R25). -/
theorem flags_ext {f g : Byte} (hs : flagS f = flagS g) (hz : flagZ f = flagZ g) (hy : flagY f = flagY g)
    (hh : flagH f = flagH g) (hx : flagX f = flagX g) (hp : flagP f = flagP g) (hn : flagN f = flagN g)
    (hc : flagC f = flagC g) : f = g := by
  apply BitVec.eq_of_getLsbD_eq
  intro i hi
  have : i = 0 ∨ i = 1 ∨ i = 2 ∨ i = 3 ∨ i = 4 ∨ i = 5 ∨ i = 6 ∨ i = 7 := by omega
  obtain rfl | rfl | rfl | rfl | rfl | rfl | rfl | rfl := this
  · exact hc
  · exact hn
  · exact hp
  · exact hx
  · exact hh
  · exact hy
  · exact hz
  · exact hs

/-- A byte with one bit set has that bit and no other. -/
theorem getLsbD_bitAt {k : Nat} (hk : k < 8) (b : Bool) (j : Nat) :
    (bitAt k b).getLsbD j = (decide (j = k) && b) := by
  have : k = 0 ∨ k = 1 ∨ k = 2 ∨ k = 3 ∨ k = 4 ∨ k = 5 ∨ k = 6 ∨ k = 7 := by omega
  cases b
  · simp [bitAt]
  · by_cases hj : j < 8
    · have : j = 0 ∨ j = 1 ∨ j = 2 ∨ j = 3 ∨ j = 4 ∨ j = 5 ∨ j = 6 ∨ j = 7 := by omega
      obtain rfl | rfl | rfl | rfl | rfl | rfl | rfl | rfl := this <;>
        obtain rfl | rfl | rfl | rfl | rfl | rfl | rfl | rfl := ‹k = 0 ∨ _› <;> decide
    · rw [BitVec.getLsbD_of_ge _ _ (by omega)]
      simp
      omega

/-! ## The tables -/

theorem flagS_sz53 : ∀ v : Byte, flagS (sz53 v) = v.getLsbD 7 := by decide +kernel

theorem flagZ_sz53 : ∀ v : Byte, flagZ (sz53 v) = (v == 0#8) := by decide +kernel

theorem flagY_sz53 : ∀ v : Byte, flagY (sz53 v) = v.getLsbD 5 := by decide +kernel

theorem flagX_sz53 : ∀ v : Byte, flagX (sz53 v) = v.getLsbD 3 := by decide +kernel

/-- The other four bits of an entry of `SZ53` are 0. -/
theorem sz53_other : ∀ v : Byte, sz53 v &&& 0x17#8 = 0#8 := by decide +kernel

/-- `SZ53P` is `SZ53` with the parity in bit 2. -/
theorem flagP_sz53p : ∀ v : Byte, flagP (sz53p v) = parity v := by decide +kernel

theorem sz53p_other : ∀ v : Byte, sz53p v &&& ~~~0x04#8 = sz53 v := by decide +kernel

/-- An entry of `SZ53`, bit by bit. -/
theorem getLsbD_sz53 (v : Byte) (j : Nat) :
    (sz53 v).getLsbD j =
      ((decide (j = 7 ∨ j = 5 ∨ j = 3) && v.getLsbD j) || (decide (j = 6) && v == 0#8)) := by
  have h : ∀ v : Byte, ∀ j : Fin 8, (sz53 v).getLsbD j =
      ((decide (j.val = 7 ∨ j.val = 5 ∨ j.val = 3) && v.getLsbD j) || (decide (j.val = 6) && v == 0#8)) := by
    decide +kernel
  by_cases hj : j < 8
  · exact h v ⟨j, hj⟩
  · rw [BitVec.getLsbD_of_ge _ _ (by omega), BitVec.getLsbD_of_ge _ _ (by omega)]
    simp
    omega

/-! ## Results of the accumulator primitives -/

theorem add8_result (a b : Byte) (cin : Bool) : (add8 a b cin).1 = a + b + BitVec.ofNat 8 cin.toNat := by
  apply BitVec.eq_of_toNat_eq
  cases cin <;> simp [add8, Nat.add_mod]

theorem sub8_result (a b : Byte) (cin : Bool) : (sub8 a b cin).1 = a - b - BitVec.ofNat 8 cin.toNat := rfl

/-- Bits 5 and 3 of a comparison's flags are the operand's (R138). -/
theorem cp8_yx (a b : Byte) : cp8 a b &&& 0x28#8 = b &&& 0x28#8 := by
  unfold cp8
  apply BitVec.eq_of_getLsbD_eq
  intro i hi
  have : i = 0 ∨ i = 1 ∨ i = 2 ∨ i = 3 ∨ i = 4 ∨ i = 5 ∨ i = 6 ∨ i = 7 := by omega
  obtain rfl | rfl | rfl | rfl | rfl | rfl | rfl | rfl := this <;> simp

end Sys2Proof.Machine
end

