-- ==== Sys2Proof/Laws/Memory.lean ====
section
/-! SUPPORT. The laws of the memory list: reads after writes, and the canonical form kept. -/

namespace Sys2Proof.Machine

/-! ## The canonical form -/

/-- A list that starts at `lo` also starts at every smaller address. -/
theorem Memory.wfFrom_le {lo lo' : Nat} (h : lo' ≤ lo) :
    ∀ {m : Memory}, Memory.wfFrom lo m = true → Memory.wfFrom lo' m = true
  | [], _ => rfl
  | (k, v) :: m, hm => by
    simp only [Memory.wfFrom, Bool.and_eq_true, decide_eq_true_eq] at hm ⊢
    exact ⟨⟨⟨h.trans hm.1.1.1, hm.1.1.2⟩, hm.1.2⟩, hm.2⟩

/-- Putting a byte in front keeps the form. -/
theorem Memory.list_wfFrom {lo a : Nat} (v : Byte) {m : Memory} (hlo : lo ≤ a) (ha : a < 65536)
    (hm : Memory.wfFrom (a + 1) m = true) : Memory.wfFrom lo (Memory.list a v m) = true := by
  unfold Memory.list
  split
  · exact Memory.wfFrom_le (by omega) hm
  · next hv => simp [Memory.wfFrom, hlo, ha, hv, hm]

/-- A write keeps the form, from any start at or below its address. -/
theorem Memory.write_wfFrom {a : Nat} (v : Byte) (ha : a < 65536) :
    ∀ {m : Memory} {lo : Nat}, lo ≤ a → Memory.wfFrom lo m = true →
      Memory.wfFrom lo (Memory.write m a v) = true
  | [], lo, hlo, _ => Memory.list_wfFrom v hlo ha rfl
  | (k, w) :: m, lo, hlo, hm => by
    have hk := hm
    simp only [Memory.wfFrom, Bool.and_eq_true, decide_eq_true_eq] at hk
    obtain ⟨⟨⟨h1, h2⟩, h3⟩, h4⟩ := hk
    unfold Memory.write
    split
    · next hak =>
      refine Memory.list_wfFrom v hlo ha ?_
      simp [Memory.wfFrom, h2, h3, h4]
      omega
    · split
      · next hak => exact Memory.list_wfFrom v hlo ha (hak ▸ h4)
      · next h5 h6 =>
        simp only [Memory.wfFrom, Bool.and_eq_true, decide_eq_true_eq]
        exact ⟨⟨⟨h1, h2⟩, h3⟩, Memory.write_wfFrom v ha (by omega) h4⟩

/-- A write at an address of the memory space keeps the canonical form. -/
theorem Memory.write_wf {m : Memory} (a : Word) (v : Byte) (hm : m.wf = true) :
    (m.write a.toNat v).wf = true :=
  Memory.write_wfFrom v a.isLt (Nat.zero_le _) hm

/-! ## Reads after writes -/

/-- An address below the start of the list is unlisted. -/
theorem Memory.read_below {a : Nat} :
    ∀ {m : Memory} {lo : Nat}, a < lo → Memory.wfFrom lo m = true → m.read a = Config.unlistedByte
  | [], _, _, _ => rfl
  | (k, w) :: m, lo, hlo, hm => by
    simp only [Memory.wfFrom, Bool.and_eq_true, decide_eq_true_eq] at hm
    obtain ⟨⟨⟨h1, -⟩, -⟩, h4⟩ := hm
    rw [Memory.read, if_neg (by omega)]
    exact Memory.read_below (by omega) h4

/-- Reading the byte just put in front. -/
theorem Memory.read_list_same {a : Nat} (v : Byte) {m : Memory} (hm : Memory.wfFrom (a + 1) m = true) :
    (Memory.list a v m).read a = v := by
  unfold Memory.list
  split
  · next hv => rw [hv]; exact Memory.read_below (Nat.lt_succ_self a) hm
  · rw [Memory.read, if_pos rfl]

/-- Putting a byte in front leaves every other address alone. -/
theorem Memory.read_list_other {a b : Nat} (v : Byte) (m : Memory) (h : b ≠ a) :
    (Memory.list a v m).read b = m.read b := by
  unfold Memory.list
  split
  · rfl
  · rw [Memory.read, if_neg h]

/-- A read after a write to the same address gives the value written. -/
theorem Memory.read_write_same {a : Nat} (v : Byte) :
    ∀ {m : Memory} {lo : Nat}, Memory.wfFrom lo m = true → (m.write a v).read a = v
  | [], _, _ => Memory.read_list_same v rfl
  | (k, w) :: m, lo, hm => by
    have hk := hm
    simp only [Memory.wfFrom, Bool.and_eq_true, decide_eq_true_eq] at hk
    obtain ⟨⟨⟨h1, h2⟩, h3⟩, h4⟩ := hk
    unfold Memory.write
    split
    · next hak =>
      refine Memory.read_list_same v ?_
      simp [Memory.wfFrom, h2, h3, h4]
      omega
    · split
      · next hak => exact Memory.read_list_same v (hak ▸ h4)
      · next h6 => rw [Memory.read, if_neg h6]; exact Memory.read_write_same v h4

/-- A write leaves every other address alone. -/
theorem Memory.read_write_other {a b : Nat} (v : Byte) (h : b ≠ a) :
    ∀ m : Memory, (m.write a v).read b = m.read b
  | [] => Memory.read_list_other v [] h
  | (k, w) :: m => by
    unfold Memory.write
    split
    · exact Memory.read_list_other v _ h
    · split
      · next hak => rw [Memory.read_list_other v _ h, Memory.read, if_neg (hak ▸ h)]
      · rw [Memory.read, Memory.read, Memory.read_write_other v h m]

/-- What every address reads as after a write. -/
theorem Memory.read_write {m : Memory} (hm : m.wf = true) (a b : Nat) (v : Byte) :
    (m.write a v).read b = if b = a then v else m.read b := by
  split
  · next h => rw [h]; exact Memory.read_write_same v hm
  · next h => exact Memory.read_write_other v h m

/-! ## Equal bytes, equal memories -/

/-- A listed byte is not what an unlisted address reads as. -/
theorem Memory.read_head {k lo : Nat} {w : Byte} {m : Memory}
    (h : Memory.wfFrom lo ((k, w) :: m) = true) : Memory.read ((k, w) :: m) k ≠ Config.unlistedByte := by
  simp only [Memory.wfFrom, Bool.and_eq_true, decide_eq_true_eq] at h
  rw [Memory.read, if_pos rfl]
  exact h.1.2

/-- Two canonical lists with the same bytes are the same list. -/
theorem Memory.ext_wfFrom :
    ∀ {m m' : Memory} {lo lo' : Nat}, Memory.wfFrom lo m = true → Memory.wfFrom lo' m' = true →
      (∀ a, m.read a = m'.read a) → m = m'
  | [], [], _, _, _, _, _ => rfl
  | [], (k, w) :: m', _, _, _, h', hr => absurd (hr k).symm (Memory.read_head h')
  | (k, w) :: m, [], _, _, h, _, hr => absurd (hr k) (Memory.read_head h)
  | (k, w) :: m, (k', w') :: m', lo, lo', h, h', hr => by
    have e := Memory.read_head h
    have e' := Memory.read_head h'
    have hk := h
    have hk' := h'
    simp only [Memory.wfFrom, Bool.and_eq_true, decide_eq_true_eq] at hk hk'
    have hkk : k = k' := by
      rcases Nat.lt_trichotomy k k' with hlt | heq | hlt
      · have : Memory.wfFrom k' ((k', w') :: m') = true := by simp [Memory.wfFrom, hk'.1.1.2, hk'.1.2, hk'.2]
        exact absurd ((hr k).trans (Memory.read_below hlt this)) e
      · exact heq
      · have : Memory.wfFrom k ((k, w) :: m) = true := by simp [Memory.wfFrom, hk.1.1.2, hk.1.2, hk.2]
        exact absurd ((hr k').symm.trans (Memory.read_below hlt this)) e'
    subst hkk
    have hw : w = w' := by simpa [Memory.read] using hr k
    subst hw
    refine congrArg _ (Memory.ext_wfFrom hk.2 hk'.2 fun a => ?_)
    by_cases ha : a = k
    · rw [ha, Memory.read_below (Nat.lt_succ_self k) hk.2, Memory.read_below (Nat.lt_succ_self k) hk'.2]
    · simpa [Memory.read, ha] using hr a

/-- Equal bytes at every address make equal memories. -/
theorem Memory.ext_wf {m m' : Memory} (h : m.wf = true) (h' : m'.wf = true)
    (hr : ∀ a, m.read a = m'.read a) : m = m' :=
  Memory.ext_wfFrom h h' hr

end Sys2Proof.Machine
end

