-- ==== Sys2Proof/Laws/State.lean ====
section
/-! SUPPORT. One lemma per field per update of State: the setters first, then what the environment does, then the
shared operations of Machine/Ops.lean. An operation leaves every register it does not name as it was, whatever the
environment does inside it; memory, the request bits and the record are said for an environment that does nothing
(the lemmas ending in `_quiet`). -/

namespace Sys2Proof.Machine

variable (s : State)

/-! ### `setA` -/

@[simp] theorem State.setA_a (v : Byte) : (s.setA v).a = v := rfl
@[simp] theorem State.setA_f (v : Byte) : (s.setA v).f = s.f := rfl
@[simp] theorem State.setA_b (v : Byte) : (s.setA v).b = s.b := rfl
@[simp] theorem State.setA_c (v : Byte) : (s.setA v).c = s.c := rfl
@[simp] theorem State.setA_d (v : Byte) : (s.setA v).d = s.d := rfl
@[simp] theorem State.setA_e (v : Byte) : (s.setA v).e = s.e := rfl
@[simp] theorem State.setA_h (v : Byte) : (s.setA v).h = s.h := rfl
@[simp] theorem State.setA_l (v : Byte) : (s.setA v).l = s.l := rfl
@[simp] theorem State.setA_af' (v : Byte) : (s.setA v).af' = s.af' := rfl
@[simp] theorem State.setA_bc' (v : Byte) : (s.setA v).bc' = s.bc' := rfl
@[simp] theorem State.setA_de' (v : Byte) : (s.setA v).de' = s.de' := rfl
@[simp] theorem State.setA_hl' (v : Byte) : (s.setA v).hl' = s.hl' := rfl
@[simp] theorem State.setA_ix (v : Byte) : (s.setA v).ix = s.ix := rfl
@[simp] theorem State.setA_iy (v : Byte) : (s.setA v).iy = s.iy := rfl
@[simp] theorem State.setA_sp (v : Byte) : (s.setA v).sp = s.sp := rfl
@[simp] theorem State.setA_pc (v : Byte) : (s.setA v).pc = s.pc := rfl
@[simp] theorem State.setA_wz (v : Byte) : (s.setA v).wz = s.wz := rfl
@[simp] theorem State.setA_i (v : Byte) : (s.setA v).i = s.i := rfl
@[simp] theorem State.setA_r (v : Byte) : (s.setA v).r = s.r := rfl
@[simp] theorem State.setA_iff1 (v : Byte) : (s.setA v).iff1 = s.iff1 := rfl
@[simp] theorem State.setA_iff2 (v : Byte) : (s.setA v).iff2 = s.iff2 := rfl
@[simp] theorem State.setA_im (v : Byte) : (s.setA v).im = s.im := rfl
@[simp] theorem State.setA_req (v : Byte) : (s.setA v).req = s.req := rfl
@[simp] theorem State.setA_irqDelay (v : Byte) : (s.setA v).irqDelay = s.irqDelay := rfl
@[simp] theorem State.setA_halted (v : Byte) : (s.setA v).halted = s.halted := rfl
@[simp] theorem State.setA_mem (v : Byte) : (s.setA v).mem = s.mem := rfl
@[simp] theorem State.setA_portIn (v : Byte) : (s.setA v).portIn = s.portIn := rfl
@[simp] theorem State.setA_freeCount (v : Byte) : (s.setA v).freeCount = s.freeCount := rfl
@[simp] theorem State.setA_env (v : Byte) : (s.setA v).env = s.env := rfl
@[simp] theorem State.setA_inside (v : Byte) : (s.setA v).inside = s.inside := rfl
@[simp] theorem State.setA_trace (v : Byte) : (s.setA v).trace = s.trace := rfl

/-! ### `setF` -/

@[simp] theorem State.setF_a (v : Byte) : (s.setF v).a = s.a := rfl
@[simp] theorem State.setF_f (v : Byte) : (s.setF v).f = v := rfl
@[simp] theorem State.setF_b (v : Byte) : (s.setF v).b = s.b := rfl
@[simp] theorem State.setF_c (v : Byte) : (s.setF v).c = s.c := rfl
@[simp] theorem State.setF_d (v : Byte) : (s.setF v).d = s.d := rfl
@[simp] theorem State.setF_e (v : Byte) : (s.setF v).e = s.e := rfl
@[simp] theorem State.setF_h (v : Byte) : (s.setF v).h = s.h := rfl
@[simp] theorem State.setF_l (v : Byte) : (s.setF v).l = s.l := rfl
@[simp] theorem State.setF_af' (v : Byte) : (s.setF v).af' = s.af' := rfl
@[simp] theorem State.setF_bc' (v : Byte) : (s.setF v).bc' = s.bc' := rfl
@[simp] theorem State.setF_de' (v : Byte) : (s.setF v).de' = s.de' := rfl
@[simp] theorem State.setF_hl' (v : Byte) : (s.setF v).hl' = s.hl' := rfl
@[simp] theorem State.setF_ix (v : Byte) : (s.setF v).ix = s.ix := rfl
@[simp] theorem State.setF_iy (v : Byte) : (s.setF v).iy = s.iy := rfl
@[simp] theorem State.setF_sp (v : Byte) : (s.setF v).sp = s.sp := rfl
@[simp] theorem State.setF_pc (v : Byte) : (s.setF v).pc = s.pc := rfl
@[simp] theorem State.setF_wz (v : Byte) : (s.setF v).wz = s.wz := rfl
@[simp] theorem State.setF_i (v : Byte) : (s.setF v).i = s.i := rfl
@[simp] theorem State.setF_r (v : Byte) : (s.setF v).r = s.r := rfl
@[simp] theorem State.setF_iff1 (v : Byte) : (s.setF v).iff1 = s.iff1 := rfl
@[simp] theorem State.setF_iff2 (v : Byte) : (s.setF v).iff2 = s.iff2 := rfl
@[simp] theorem State.setF_im (v : Byte) : (s.setF v).im = s.im := rfl
@[simp] theorem State.setF_req (v : Byte) : (s.setF v).req = s.req := rfl
@[simp] theorem State.setF_irqDelay (v : Byte) : (s.setF v).irqDelay = s.irqDelay := rfl
@[simp] theorem State.setF_halted (v : Byte) : (s.setF v).halted = s.halted := rfl
@[simp] theorem State.setF_mem (v : Byte) : (s.setF v).mem = s.mem := rfl
@[simp] theorem State.setF_portIn (v : Byte) : (s.setF v).portIn = s.portIn := rfl
@[simp] theorem State.setF_freeCount (v : Byte) : (s.setF v).freeCount = s.freeCount := rfl
@[simp] theorem State.setF_env (v : Byte) : (s.setF v).env = s.env := rfl
@[simp] theorem State.setF_inside (v : Byte) : (s.setF v).inside = s.inside := rfl
@[simp] theorem State.setF_trace (v : Byte) : (s.setF v).trace = s.trace := rfl

/-! ### `setB` -/

@[simp] theorem State.setB_a (v : Byte) : (s.setB v).a = s.a := rfl
@[simp] theorem State.setB_f (v : Byte) : (s.setB v).f = s.f := rfl
@[simp] theorem State.setB_b (v : Byte) : (s.setB v).b = v := rfl
@[simp] theorem State.setB_c (v : Byte) : (s.setB v).c = s.c := rfl
@[simp] theorem State.setB_d (v : Byte) : (s.setB v).d = s.d := rfl
@[simp] theorem State.setB_e (v : Byte) : (s.setB v).e = s.e := rfl
@[simp] theorem State.setB_h (v : Byte) : (s.setB v).h = s.h := rfl
@[simp] theorem State.setB_l (v : Byte) : (s.setB v).l = s.l := rfl
@[simp] theorem State.setB_af' (v : Byte) : (s.setB v).af' = s.af' := rfl
@[simp] theorem State.setB_bc' (v : Byte) : (s.setB v).bc' = s.bc' := rfl
@[simp] theorem State.setB_de' (v : Byte) : (s.setB v).de' = s.de' := rfl
@[simp] theorem State.setB_hl' (v : Byte) : (s.setB v).hl' = s.hl' := rfl
@[simp] theorem State.setB_ix (v : Byte) : (s.setB v).ix = s.ix := rfl
@[simp] theorem State.setB_iy (v : Byte) : (s.setB v).iy = s.iy := rfl
@[simp] theorem State.setB_sp (v : Byte) : (s.setB v).sp = s.sp := rfl
@[simp] theorem State.setB_pc (v : Byte) : (s.setB v).pc = s.pc := rfl
@[simp] theorem State.setB_wz (v : Byte) : (s.setB v).wz = s.wz := rfl
@[simp] theorem State.setB_i (v : Byte) : (s.setB v).i = s.i := rfl
@[simp] theorem State.setB_r (v : Byte) : (s.setB v).r = s.r := rfl
@[simp] theorem State.setB_iff1 (v : Byte) : (s.setB v).iff1 = s.iff1 := rfl
@[simp] theorem State.setB_iff2 (v : Byte) : (s.setB v).iff2 = s.iff2 := rfl
@[simp] theorem State.setB_im (v : Byte) : (s.setB v).im = s.im := rfl
@[simp] theorem State.setB_req (v : Byte) : (s.setB v).req = s.req := rfl
@[simp] theorem State.setB_irqDelay (v : Byte) : (s.setB v).irqDelay = s.irqDelay := rfl
@[simp] theorem State.setB_halted (v : Byte) : (s.setB v).halted = s.halted := rfl
@[simp] theorem State.setB_mem (v : Byte) : (s.setB v).mem = s.mem := rfl
@[simp] theorem State.setB_portIn (v : Byte) : (s.setB v).portIn = s.portIn := rfl
@[simp] theorem State.setB_freeCount (v : Byte) : (s.setB v).freeCount = s.freeCount := rfl
@[simp] theorem State.setB_env (v : Byte) : (s.setB v).env = s.env := rfl
@[simp] theorem State.setB_inside (v : Byte) : (s.setB v).inside = s.inside := rfl
@[simp] theorem State.setB_trace (v : Byte) : (s.setB v).trace = s.trace := rfl

/-! ### `setC` -/

@[simp] theorem State.setC_a (v : Byte) : (s.setC v).a = s.a := rfl
@[simp] theorem State.setC_f (v : Byte) : (s.setC v).f = s.f := rfl
@[simp] theorem State.setC_b (v : Byte) : (s.setC v).b = s.b := rfl
@[simp] theorem State.setC_c (v : Byte) : (s.setC v).c = v := rfl
@[simp] theorem State.setC_d (v : Byte) : (s.setC v).d = s.d := rfl
@[simp] theorem State.setC_e (v : Byte) : (s.setC v).e = s.e := rfl
@[simp] theorem State.setC_h (v : Byte) : (s.setC v).h = s.h := rfl
@[simp] theorem State.setC_l (v : Byte) : (s.setC v).l = s.l := rfl
@[simp] theorem State.setC_af' (v : Byte) : (s.setC v).af' = s.af' := rfl
@[simp] theorem State.setC_bc' (v : Byte) : (s.setC v).bc' = s.bc' := rfl
@[simp] theorem State.setC_de' (v : Byte) : (s.setC v).de' = s.de' := rfl
@[simp] theorem State.setC_hl' (v : Byte) : (s.setC v).hl' = s.hl' := rfl
@[simp] theorem State.setC_ix (v : Byte) : (s.setC v).ix = s.ix := rfl
@[simp] theorem State.setC_iy (v : Byte) : (s.setC v).iy = s.iy := rfl
@[simp] theorem State.setC_sp (v : Byte) : (s.setC v).sp = s.sp := rfl
@[simp] theorem State.setC_pc (v : Byte) : (s.setC v).pc = s.pc := rfl
@[simp] theorem State.setC_wz (v : Byte) : (s.setC v).wz = s.wz := rfl
@[simp] theorem State.setC_i (v : Byte) : (s.setC v).i = s.i := rfl
@[simp] theorem State.setC_r (v : Byte) : (s.setC v).r = s.r := rfl
@[simp] theorem State.setC_iff1 (v : Byte) : (s.setC v).iff1 = s.iff1 := rfl
@[simp] theorem State.setC_iff2 (v : Byte) : (s.setC v).iff2 = s.iff2 := rfl
@[simp] theorem State.setC_im (v : Byte) : (s.setC v).im = s.im := rfl
@[simp] theorem State.setC_req (v : Byte) : (s.setC v).req = s.req := rfl
@[simp] theorem State.setC_irqDelay (v : Byte) : (s.setC v).irqDelay = s.irqDelay := rfl
@[simp] theorem State.setC_halted (v : Byte) : (s.setC v).halted = s.halted := rfl
@[simp] theorem State.setC_mem (v : Byte) : (s.setC v).mem = s.mem := rfl
@[simp] theorem State.setC_portIn (v : Byte) : (s.setC v).portIn = s.portIn := rfl
@[simp] theorem State.setC_freeCount (v : Byte) : (s.setC v).freeCount = s.freeCount := rfl
@[simp] theorem State.setC_env (v : Byte) : (s.setC v).env = s.env := rfl
@[simp] theorem State.setC_inside (v : Byte) : (s.setC v).inside = s.inside := rfl
@[simp] theorem State.setC_trace (v : Byte) : (s.setC v).trace = s.trace := rfl

/-! ### `setD` -/

@[simp] theorem State.setD_a (v : Byte) : (s.setD v).a = s.a := rfl
@[simp] theorem State.setD_f (v : Byte) : (s.setD v).f = s.f := rfl
@[simp] theorem State.setD_b (v : Byte) : (s.setD v).b = s.b := rfl
@[simp] theorem State.setD_c (v : Byte) : (s.setD v).c = s.c := rfl
@[simp] theorem State.setD_d (v : Byte) : (s.setD v).d = v := rfl
@[simp] theorem State.setD_e (v : Byte) : (s.setD v).e = s.e := rfl
@[simp] theorem State.setD_h (v : Byte) : (s.setD v).h = s.h := rfl
@[simp] theorem State.setD_l (v : Byte) : (s.setD v).l = s.l := rfl
@[simp] theorem State.setD_af' (v : Byte) : (s.setD v).af' = s.af' := rfl
@[simp] theorem State.setD_bc' (v : Byte) : (s.setD v).bc' = s.bc' := rfl
@[simp] theorem State.setD_de' (v : Byte) : (s.setD v).de' = s.de' := rfl
@[simp] theorem State.setD_hl' (v : Byte) : (s.setD v).hl' = s.hl' := rfl
@[simp] theorem State.setD_ix (v : Byte) : (s.setD v).ix = s.ix := rfl
@[simp] theorem State.setD_iy (v : Byte) : (s.setD v).iy = s.iy := rfl
@[simp] theorem State.setD_sp (v : Byte) : (s.setD v).sp = s.sp := rfl
@[simp] theorem State.setD_pc (v : Byte) : (s.setD v).pc = s.pc := rfl
@[simp] theorem State.setD_wz (v : Byte) : (s.setD v).wz = s.wz := rfl
@[simp] theorem State.setD_i (v : Byte) : (s.setD v).i = s.i := rfl
@[simp] theorem State.setD_r (v : Byte) : (s.setD v).r = s.r := rfl
@[simp] theorem State.setD_iff1 (v : Byte) : (s.setD v).iff1 = s.iff1 := rfl
@[simp] theorem State.setD_iff2 (v : Byte) : (s.setD v).iff2 = s.iff2 := rfl
@[simp] theorem State.setD_im (v : Byte) : (s.setD v).im = s.im := rfl
@[simp] theorem State.setD_req (v : Byte) : (s.setD v).req = s.req := rfl
@[simp] theorem State.setD_irqDelay (v : Byte) : (s.setD v).irqDelay = s.irqDelay := rfl
@[simp] theorem State.setD_halted (v : Byte) : (s.setD v).halted = s.halted := rfl
@[simp] theorem State.setD_mem (v : Byte) : (s.setD v).mem = s.mem := rfl
@[simp] theorem State.setD_portIn (v : Byte) : (s.setD v).portIn = s.portIn := rfl
@[simp] theorem State.setD_freeCount (v : Byte) : (s.setD v).freeCount = s.freeCount := rfl
@[simp] theorem State.setD_env (v : Byte) : (s.setD v).env = s.env := rfl
@[simp] theorem State.setD_inside (v : Byte) : (s.setD v).inside = s.inside := rfl
@[simp] theorem State.setD_trace (v : Byte) : (s.setD v).trace = s.trace := rfl

/-! ### `setE` -/

@[simp] theorem State.setE_a (v : Byte) : (s.setE v).a = s.a := rfl
@[simp] theorem State.setE_f (v : Byte) : (s.setE v).f = s.f := rfl
@[simp] theorem State.setE_b (v : Byte) : (s.setE v).b = s.b := rfl
@[simp] theorem State.setE_c (v : Byte) : (s.setE v).c = s.c := rfl
@[simp] theorem State.setE_d (v : Byte) : (s.setE v).d = s.d := rfl
@[simp] theorem State.setE_e (v : Byte) : (s.setE v).e = v := rfl
@[simp] theorem State.setE_h (v : Byte) : (s.setE v).h = s.h := rfl
@[simp] theorem State.setE_l (v : Byte) : (s.setE v).l = s.l := rfl
@[simp] theorem State.setE_af' (v : Byte) : (s.setE v).af' = s.af' := rfl
@[simp] theorem State.setE_bc' (v : Byte) : (s.setE v).bc' = s.bc' := rfl
@[simp] theorem State.setE_de' (v : Byte) : (s.setE v).de' = s.de' := rfl
@[simp] theorem State.setE_hl' (v : Byte) : (s.setE v).hl' = s.hl' := rfl
@[simp] theorem State.setE_ix (v : Byte) : (s.setE v).ix = s.ix := rfl
@[simp] theorem State.setE_iy (v : Byte) : (s.setE v).iy = s.iy := rfl
@[simp] theorem State.setE_sp (v : Byte) : (s.setE v).sp = s.sp := rfl
@[simp] theorem State.setE_pc (v : Byte) : (s.setE v).pc = s.pc := rfl
@[simp] theorem State.setE_wz (v : Byte) : (s.setE v).wz = s.wz := rfl
@[simp] theorem State.setE_i (v : Byte) : (s.setE v).i = s.i := rfl
@[simp] theorem State.setE_r (v : Byte) : (s.setE v).r = s.r := rfl
@[simp] theorem State.setE_iff1 (v : Byte) : (s.setE v).iff1 = s.iff1 := rfl
@[simp] theorem State.setE_iff2 (v : Byte) : (s.setE v).iff2 = s.iff2 := rfl
@[simp] theorem State.setE_im (v : Byte) : (s.setE v).im = s.im := rfl
@[simp] theorem State.setE_req (v : Byte) : (s.setE v).req = s.req := rfl
@[simp] theorem State.setE_irqDelay (v : Byte) : (s.setE v).irqDelay = s.irqDelay := rfl
@[simp] theorem State.setE_halted (v : Byte) : (s.setE v).halted = s.halted := rfl
@[simp] theorem State.setE_mem (v : Byte) : (s.setE v).mem = s.mem := rfl
@[simp] theorem State.setE_portIn (v : Byte) : (s.setE v).portIn = s.portIn := rfl
@[simp] theorem State.setE_freeCount (v : Byte) : (s.setE v).freeCount = s.freeCount := rfl
@[simp] theorem State.setE_env (v : Byte) : (s.setE v).env = s.env := rfl
@[simp] theorem State.setE_inside (v : Byte) : (s.setE v).inside = s.inside := rfl
@[simp] theorem State.setE_trace (v : Byte) : (s.setE v).trace = s.trace := rfl

/-! ### `setH` -/

@[simp] theorem State.setH_a (v : Byte) : (s.setH v).a = s.a := rfl
@[simp] theorem State.setH_f (v : Byte) : (s.setH v).f = s.f := rfl
@[simp] theorem State.setH_b (v : Byte) : (s.setH v).b = s.b := rfl
@[simp] theorem State.setH_c (v : Byte) : (s.setH v).c = s.c := rfl
@[simp] theorem State.setH_d (v : Byte) : (s.setH v).d = s.d := rfl
@[simp] theorem State.setH_e (v : Byte) : (s.setH v).e = s.e := rfl
@[simp] theorem State.setH_h (v : Byte) : (s.setH v).h = v := rfl
@[simp] theorem State.setH_l (v : Byte) : (s.setH v).l = s.l := rfl
@[simp] theorem State.setH_af' (v : Byte) : (s.setH v).af' = s.af' := rfl
@[simp] theorem State.setH_bc' (v : Byte) : (s.setH v).bc' = s.bc' := rfl
@[simp] theorem State.setH_de' (v : Byte) : (s.setH v).de' = s.de' := rfl
@[simp] theorem State.setH_hl' (v : Byte) : (s.setH v).hl' = s.hl' := rfl
@[simp] theorem State.setH_ix (v : Byte) : (s.setH v).ix = s.ix := rfl
@[simp] theorem State.setH_iy (v : Byte) : (s.setH v).iy = s.iy := rfl
@[simp] theorem State.setH_sp (v : Byte) : (s.setH v).sp = s.sp := rfl
@[simp] theorem State.setH_pc (v : Byte) : (s.setH v).pc = s.pc := rfl
@[simp] theorem State.setH_wz (v : Byte) : (s.setH v).wz = s.wz := rfl
@[simp] theorem State.setH_i (v : Byte) : (s.setH v).i = s.i := rfl
@[simp] theorem State.setH_r (v : Byte) : (s.setH v).r = s.r := rfl
@[simp] theorem State.setH_iff1 (v : Byte) : (s.setH v).iff1 = s.iff1 := rfl
@[simp] theorem State.setH_iff2 (v : Byte) : (s.setH v).iff2 = s.iff2 := rfl
@[simp] theorem State.setH_im (v : Byte) : (s.setH v).im = s.im := rfl
@[simp] theorem State.setH_req (v : Byte) : (s.setH v).req = s.req := rfl
@[simp] theorem State.setH_irqDelay (v : Byte) : (s.setH v).irqDelay = s.irqDelay := rfl
@[simp] theorem State.setH_halted (v : Byte) : (s.setH v).halted = s.halted := rfl
@[simp] theorem State.setH_mem (v : Byte) : (s.setH v).mem = s.mem := rfl
@[simp] theorem State.setH_portIn (v : Byte) : (s.setH v).portIn = s.portIn := rfl
@[simp] theorem State.setH_freeCount (v : Byte) : (s.setH v).freeCount = s.freeCount := rfl
@[simp] theorem State.setH_env (v : Byte) : (s.setH v).env = s.env := rfl
@[simp] theorem State.setH_inside (v : Byte) : (s.setH v).inside = s.inside := rfl
@[simp] theorem State.setH_trace (v : Byte) : (s.setH v).trace = s.trace := rfl

/-! ### `setL` -/

@[simp] theorem State.setL_a (v : Byte) : (s.setL v).a = s.a := rfl
@[simp] theorem State.setL_f (v : Byte) : (s.setL v).f = s.f := rfl
@[simp] theorem State.setL_b (v : Byte) : (s.setL v).b = s.b := rfl
@[simp] theorem State.setL_c (v : Byte) : (s.setL v).c = s.c := rfl
@[simp] theorem State.setL_d (v : Byte) : (s.setL v).d = s.d := rfl
@[simp] theorem State.setL_e (v : Byte) : (s.setL v).e = s.e := rfl
@[simp] theorem State.setL_h (v : Byte) : (s.setL v).h = s.h := rfl
@[simp] theorem State.setL_l (v : Byte) : (s.setL v).l = v := rfl
@[simp] theorem State.setL_af' (v : Byte) : (s.setL v).af' = s.af' := rfl
@[simp] theorem State.setL_bc' (v : Byte) : (s.setL v).bc' = s.bc' := rfl
@[simp] theorem State.setL_de' (v : Byte) : (s.setL v).de' = s.de' := rfl
@[simp] theorem State.setL_hl' (v : Byte) : (s.setL v).hl' = s.hl' := rfl
@[simp] theorem State.setL_ix (v : Byte) : (s.setL v).ix = s.ix := rfl
@[simp] theorem State.setL_iy (v : Byte) : (s.setL v).iy = s.iy := rfl
@[simp] theorem State.setL_sp (v : Byte) : (s.setL v).sp = s.sp := rfl
@[simp] theorem State.setL_pc (v : Byte) : (s.setL v).pc = s.pc := rfl
@[simp] theorem State.setL_wz (v : Byte) : (s.setL v).wz = s.wz := rfl
@[simp] theorem State.setL_i (v : Byte) : (s.setL v).i = s.i := rfl
@[simp] theorem State.setL_r (v : Byte) : (s.setL v).r = s.r := rfl
@[simp] theorem State.setL_iff1 (v : Byte) : (s.setL v).iff1 = s.iff1 := rfl
@[simp] theorem State.setL_iff2 (v : Byte) : (s.setL v).iff2 = s.iff2 := rfl
@[simp] theorem State.setL_im (v : Byte) : (s.setL v).im = s.im := rfl
@[simp] theorem State.setL_req (v : Byte) : (s.setL v).req = s.req := rfl
@[simp] theorem State.setL_irqDelay (v : Byte) : (s.setL v).irqDelay = s.irqDelay := rfl
@[simp] theorem State.setL_halted (v : Byte) : (s.setL v).halted = s.halted := rfl
@[simp] theorem State.setL_mem (v : Byte) : (s.setL v).mem = s.mem := rfl
@[simp] theorem State.setL_portIn (v : Byte) : (s.setL v).portIn = s.portIn := rfl
@[simp] theorem State.setL_freeCount (v : Byte) : (s.setL v).freeCount = s.freeCount := rfl
@[simp] theorem State.setL_env (v : Byte) : (s.setL v).env = s.env := rfl
@[simp] theorem State.setL_inside (v : Byte) : (s.setL v).inside = s.inside := rfl
@[simp] theorem State.setL_trace (v : Byte) : (s.setL v).trace = s.trace := rfl

/-! ### `setAf'` -/

@[simp] theorem State.setAf'_a (v : Word) : (s.setAf' v).a = s.a := rfl
@[simp] theorem State.setAf'_f (v : Word) : (s.setAf' v).f = s.f := rfl
@[simp] theorem State.setAf'_b (v : Word) : (s.setAf' v).b = s.b := rfl
@[simp] theorem State.setAf'_c (v : Word) : (s.setAf' v).c = s.c := rfl
@[simp] theorem State.setAf'_d (v : Word) : (s.setAf' v).d = s.d := rfl
@[simp] theorem State.setAf'_e (v : Word) : (s.setAf' v).e = s.e := rfl
@[simp] theorem State.setAf'_h (v : Word) : (s.setAf' v).h = s.h := rfl
@[simp] theorem State.setAf'_l (v : Word) : (s.setAf' v).l = s.l := rfl
@[simp] theorem State.setAf'_af' (v : Word) : (s.setAf' v).af' = v := rfl
@[simp] theorem State.setAf'_bc' (v : Word) : (s.setAf' v).bc' = s.bc' := rfl
@[simp] theorem State.setAf'_de' (v : Word) : (s.setAf' v).de' = s.de' := rfl
@[simp] theorem State.setAf'_hl' (v : Word) : (s.setAf' v).hl' = s.hl' := rfl
@[simp] theorem State.setAf'_ix (v : Word) : (s.setAf' v).ix = s.ix := rfl
@[simp] theorem State.setAf'_iy (v : Word) : (s.setAf' v).iy = s.iy := rfl
@[simp] theorem State.setAf'_sp (v : Word) : (s.setAf' v).sp = s.sp := rfl
@[simp] theorem State.setAf'_pc (v : Word) : (s.setAf' v).pc = s.pc := rfl
@[simp] theorem State.setAf'_wz (v : Word) : (s.setAf' v).wz = s.wz := rfl
@[simp] theorem State.setAf'_i (v : Word) : (s.setAf' v).i = s.i := rfl
@[simp] theorem State.setAf'_r (v : Word) : (s.setAf' v).r = s.r := rfl
@[simp] theorem State.setAf'_iff1 (v : Word) : (s.setAf' v).iff1 = s.iff1 := rfl
@[simp] theorem State.setAf'_iff2 (v : Word) : (s.setAf' v).iff2 = s.iff2 := rfl
@[simp] theorem State.setAf'_im (v : Word) : (s.setAf' v).im = s.im := rfl
@[simp] theorem State.setAf'_req (v : Word) : (s.setAf' v).req = s.req := rfl
@[simp] theorem State.setAf'_irqDelay (v : Word) : (s.setAf' v).irqDelay = s.irqDelay := rfl
@[simp] theorem State.setAf'_halted (v : Word) : (s.setAf' v).halted = s.halted := rfl
@[simp] theorem State.setAf'_mem (v : Word) : (s.setAf' v).mem = s.mem := rfl
@[simp] theorem State.setAf'_portIn (v : Word) : (s.setAf' v).portIn = s.portIn := rfl
@[simp] theorem State.setAf'_freeCount (v : Word) : (s.setAf' v).freeCount = s.freeCount := rfl
@[simp] theorem State.setAf'_env (v : Word) : (s.setAf' v).env = s.env := rfl
@[simp] theorem State.setAf'_inside (v : Word) : (s.setAf' v).inside = s.inside := rfl
@[simp] theorem State.setAf'_trace (v : Word) : (s.setAf' v).trace = s.trace := rfl

/-! ### `setBc'` -/

@[simp] theorem State.setBc'_a (v : Word) : (s.setBc' v).a = s.a := rfl
@[simp] theorem State.setBc'_f (v : Word) : (s.setBc' v).f = s.f := rfl
@[simp] theorem State.setBc'_b (v : Word) : (s.setBc' v).b = s.b := rfl
@[simp] theorem State.setBc'_c (v : Word) : (s.setBc' v).c = s.c := rfl
@[simp] theorem State.setBc'_d (v : Word) : (s.setBc' v).d = s.d := rfl
@[simp] theorem State.setBc'_e (v : Word) : (s.setBc' v).e = s.e := rfl
@[simp] theorem State.setBc'_h (v : Word) : (s.setBc' v).h = s.h := rfl
@[simp] theorem State.setBc'_l (v : Word) : (s.setBc' v).l = s.l := rfl
@[simp] theorem State.setBc'_af' (v : Word) : (s.setBc' v).af' = s.af' := rfl
@[simp] theorem State.setBc'_bc' (v : Word) : (s.setBc' v).bc' = v := rfl
@[simp] theorem State.setBc'_de' (v : Word) : (s.setBc' v).de' = s.de' := rfl
@[simp] theorem State.setBc'_hl' (v : Word) : (s.setBc' v).hl' = s.hl' := rfl
@[simp] theorem State.setBc'_ix (v : Word) : (s.setBc' v).ix = s.ix := rfl
@[simp] theorem State.setBc'_iy (v : Word) : (s.setBc' v).iy = s.iy := rfl
@[simp] theorem State.setBc'_sp (v : Word) : (s.setBc' v).sp = s.sp := rfl
@[simp] theorem State.setBc'_pc (v : Word) : (s.setBc' v).pc = s.pc := rfl
@[simp] theorem State.setBc'_wz (v : Word) : (s.setBc' v).wz = s.wz := rfl
@[simp] theorem State.setBc'_i (v : Word) : (s.setBc' v).i = s.i := rfl
@[simp] theorem State.setBc'_r (v : Word) : (s.setBc' v).r = s.r := rfl
@[simp] theorem State.setBc'_iff1 (v : Word) : (s.setBc' v).iff1 = s.iff1 := rfl
@[simp] theorem State.setBc'_iff2 (v : Word) : (s.setBc' v).iff2 = s.iff2 := rfl
@[simp] theorem State.setBc'_im (v : Word) : (s.setBc' v).im = s.im := rfl
@[simp] theorem State.setBc'_req (v : Word) : (s.setBc' v).req = s.req := rfl
@[simp] theorem State.setBc'_irqDelay (v : Word) : (s.setBc' v).irqDelay = s.irqDelay := rfl
@[simp] theorem State.setBc'_halted (v : Word) : (s.setBc' v).halted = s.halted := rfl
@[simp] theorem State.setBc'_mem (v : Word) : (s.setBc' v).mem = s.mem := rfl
@[simp] theorem State.setBc'_portIn (v : Word) : (s.setBc' v).portIn = s.portIn := rfl
@[simp] theorem State.setBc'_freeCount (v : Word) : (s.setBc' v).freeCount = s.freeCount := rfl
@[simp] theorem State.setBc'_env (v : Word) : (s.setBc' v).env = s.env := rfl
@[simp] theorem State.setBc'_inside (v : Word) : (s.setBc' v).inside = s.inside := rfl
@[simp] theorem State.setBc'_trace (v : Word) : (s.setBc' v).trace = s.trace := rfl

/-! ### `setDe'` -/

@[simp] theorem State.setDe'_a (v : Word) : (s.setDe' v).a = s.a := rfl
@[simp] theorem State.setDe'_f (v : Word) : (s.setDe' v).f = s.f := rfl
@[simp] theorem State.setDe'_b (v : Word) : (s.setDe' v).b = s.b := rfl
@[simp] theorem State.setDe'_c (v : Word) : (s.setDe' v).c = s.c := rfl
@[simp] theorem State.setDe'_d (v : Word) : (s.setDe' v).d = s.d := rfl
@[simp] theorem State.setDe'_e (v : Word) : (s.setDe' v).e = s.e := rfl
@[simp] theorem State.setDe'_h (v : Word) : (s.setDe' v).h = s.h := rfl
@[simp] theorem State.setDe'_l (v : Word) : (s.setDe' v).l = s.l := rfl
@[simp] theorem State.setDe'_af' (v : Word) : (s.setDe' v).af' = s.af' := rfl
@[simp] theorem State.setDe'_bc' (v : Word) : (s.setDe' v).bc' = s.bc' := rfl
@[simp] theorem State.setDe'_de' (v : Word) : (s.setDe' v).de' = v := rfl
@[simp] theorem State.setDe'_hl' (v : Word) : (s.setDe' v).hl' = s.hl' := rfl
@[simp] theorem State.setDe'_ix (v : Word) : (s.setDe' v).ix = s.ix := rfl
@[simp] theorem State.setDe'_iy (v : Word) : (s.setDe' v).iy = s.iy := rfl
@[simp] theorem State.setDe'_sp (v : Word) : (s.setDe' v).sp = s.sp := rfl
@[simp] theorem State.setDe'_pc (v : Word) : (s.setDe' v).pc = s.pc := rfl
@[simp] theorem State.setDe'_wz (v : Word) : (s.setDe' v).wz = s.wz := rfl
@[simp] theorem State.setDe'_i (v : Word) : (s.setDe' v).i = s.i := rfl
@[simp] theorem State.setDe'_r (v : Word) : (s.setDe' v).r = s.r := rfl
@[simp] theorem State.setDe'_iff1 (v : Word) : (s.setDe' v).iff1 = s.iff1 := rfl
@[simp] theorem State.setDe'_iff2 (v : Word) : (s.setDe' v).iff2 = s.iff2 := rfl
@[simp] theorem State.setDe'_im (v : Word) : (s.setDe' v).im = s.im := rfl
@[simp] theorem State.setDe'_req (v : Word) : (s.setDe' v).req = s.req := rfl
@[simp] theorem State.setDe'_irqDelay (v : Word) : (s.setDe' v).irqDelay = s.irqDelay := rfl
@[simp] theorem State.setDe'_halted (v : Word) : (s.setDe' v).halted = s.halted := rfl
@[simp] theorem State.setDe'_mem (v : Word) : (s.setDe' v).mem = s.mem := rfl
@[simp] theorem State.setDe'_portIn (v : Word) : (s.setDe' v).portIn = s.portIn := rfl
@[simp] theorem State.setDe'_freeCount (v : Word) : (s.setDe' v).freeCount = s.freeCount := rfl
@[simp] theorem State.setDe'_env (v : Word) : (s.setDe' v).env = s.env := rfl
@[simp] theorem State.setDe'_inside (v : Word) : (s.setDe' v).inside = s.inside := rfl
@[simp] theorem State.setDe'_trace (v : Word) : (s.setDe' v).trace = s.trace := rfl

/-! ### `setHl'` -/

@[simp] theorem State.setHl'_a (v : Word) : (s.setHl' v).a = s.a := rfl
@[simp] theorem State.setHl'_f (v : Word) : (s.setHl' v).f = s.f := rfl
@[simp] theorem State.setHl'_b (v : Word) : (s.setHl' v).b = s.b := rfl
@[simp] theorem State.setHl'_c (v : Word) : (s.setHl' v).c = s.c := rfl
@[simp] theorem State.setHl'_d (v : Word) : (s.setHl' v).d = s.d := rfl
@[simp] theorem State.setHl'_e (v : Word) : (s.setHl' v).e = s.e := rfl
@[simp] theorem State.setHl'_h (v : Word) : (s.setHl' v).h = s.h := rfl
@[simp] theorem State.setHl'_l (v : Word) : (s.setHl' v).l = s.l := rfl
@[simp] theorem State.setHl'_af' (v : Word) : (s.setHl' v).af' = s.af' := rfl
@[simp] theorem State.setHl'_bc' (v : Word) : (s.setHl' v).bc' = s.bc' := rfl
@[simp] theorem State.setHl'_de' (v : Word) : (s.setHl' v).de' = s.de' := rfl
@[simp] theorem State.setHl'_hl' (v : Word) : (s.setHl' v).hl' = v := rfl
@[simp] theorem State.setHl'_ix (v : Word) : (s.setHl' v).ix = s.ix := rfl
@[simp] theorem State.setHl'_iy (v : Word) : (s.setHl' v).iy = s.iy := rfl
@[simp] theorem State.setHl'_sp (v : Word) : (s.setHl' v).sp = s.sp := rfl
@[simp] theorem State.setHl'_pc (v : Word) : (s.setHl' v).pc = s.pc := rfl
@[simp] theorem State.setHl'_wz (v : Word) : (s.setHl' v).wz = s.wz := rfl
@[simp] theorem State.setHl'_i (v : Word) : (s.setHl' v).i = s.i := rfl
@[simp] theorem State.setHl'_r (v : Word) : (s.setHl' v).r = s.r := rfl
@[simp] theorem State.setHl'_iff1 (v : Word) : (s.setHl' v).iff1 = s.iff1 := rfl
@[simp] theorem State.setHl'_iff2 (v : Word) : (s.setHl' v).iff2 = s.iff2 := rfl
@[simp] theorem State.setHl'_im (v : Word) : (s.setHl' v).im = s.im := rfl
@[simp] theorem State.setHl'_req (v : Word) : (s.setHl' v).req = s.req := rfl
@[simp] theorem State.setHl'_irqDelay (v : Word) : (s.setHl' v).irqDelay = s.irqDelay := rfl
@[simp] theorem State.setHl'_halted (v : Word) : (s.setHl' v).halted = s.halted := rfl
@[simp] theorem State.setHl'_mem (v : Word) : (s.setHl' v).mem = s.mem := rfl
@[simp] theorem State.setHl'_portIn (v : Word) : (s.setHl' v).portIn = s.portIn := rfl
@[simp] theorem State.setHl'_freeCount (v : Word) : (s.setHl' v).freeCount = s.freeCount := rfl
@[simp] theorem State.setHl'_env (v : Word) : (s.setHl' v).env = s.env := rfl
@[simp] theorem State.setHl'_inside (v : Word) : (s.setHl' v).inside = s.inside := rfl
@[simp] theorem State.setHl'_trace (v : Word) : (s.setHl' v).trace = s.trace := rfl

/-! ### `setIx` -/

@[simp] theorem State.setIx_a (v : Word) : (s.setIx v).a = s.a := rfl
@[simp] theorem State.setIx_f (v : Word) : (s.setIx v).f = s.f := rfl
@[simp] theorem State.setIx_b (v : Word) : (s.setIx v).b = s.b := rfl
@[simp] theorem State.setIx_c (v : Word) : (s.setIx v).c = s.c := rfl
@[simp] theorem State.setIx_d (v : Word) : (s.setIx v).d = s.d := rfl
@[simp] theorem State.setIx_e (v : Word) : (s.setIx v).e = s.e := rfl
@[simp] theorem State.setIx_h (v : Word) : (s.setIx v).h = s.h := rfl
@[simp] theorem State.setIx_l (v : Word) : (s.setIx v).l = s.l := rfl
@[simp] theorem State.setIx_af' (v : Word) : (s.setIx v).af' = s.af' := rfl
@[simp] theorem State.setIx_bc' (v : Word) : (s.setIx v).bc' = s.bc' := rfl
@[simp] theorem State.setIx_de' (v : Word) : (s.setIx v).de' = s.de' := rfl
@[simp] theorem State.setIx_hl' (v : Word) : (s.setIx v).hl' = s.hl' := rfl
@[simp] theorem State.setIx_ix (v : Word) : (s.setIx v).ix = v := rfl
@[simp] theorem State.setIx_iy (v : Word) : (s.setIx v).iy = s.iy := rfl
@[simp] theorem State.setIx_sp (v : Word) : (s.setIx v).sp = s.sp := rfl
@[simp] theorem State.setIx_pc (v : Word) : (s.setIx v).pc = s.pc := rfl
@[simp] theorem State.setIx_wz (v : Word) : (s.setIx v).wz = s.wz := rfl
@[simp] theorem State.setIx_i (v : Word) : (s.setIx v).i = s.i := rfl
@[simp] theorem State.setIx_r (v : Word) : (s.setIx v).r = s.r := rfl
@[simp] theorem State.setIx_iff1 (v : Word) : (s.setIx v).iff1 = s.iff1 := rfl
@[simp] theorem State.setIx_iff2 (v : Word) : (s.setIx v).iff2 = s.iff2 := rfl
@[simp] theorem State.setIx_im (v : Word) : (s.setIx v).im = s.im := rfl
@[simp] theorem State.setIx_req (v : Word) : (s.setIx v).req = s.req := rfl
@[simp] theorem State.setIx_irqDelay (v : Word) : (s.setIx v).irqDelay = s.irqDelay := rfl
@[simp] theorem State.setIx_halted (v : Word) : (s.setIx v).halted = s.halted := rfl
@[simp] theorem State.setIx_mem (v : Word) : (s.setIx v).mem = s.mem := rfl
@[simp] theorem State.setIx_portIn (v : Word) : (s.setIx v).portIn = s.portIn := rfl
@[simp] theorem State.setIx_freeCount (v : Word) : (s.setIx v).freeCount = s.freeCount := rfl
@[simp] theorem State.setIx_env (v : Word) : (s.setIx v).env = s.env := rfl
@[simp] theorem State.setIx_inside (v : Word) : (s.setIx v).inside = s.inside := rfl
@[simp] theorem State.setIx_trace (v : Word) : (s.setIx v).trace = s.trace := rfl

/-! ### `setIy` -/

@[simp] theorem State.setIy_a (v : Word) : (s.setIy v).a = s.a := rfl
@[simp] theorem State.setIy_f (v : Word) : (s.setIy v).f = s.f := rfl
@[simp] theorem State.setIy_b (v : Word) : (s.setIy v).b = s.b := rfl
@[simp] theorem State.setIy_c (v : Word) : (s.setIy v).c = s.c := rfl
@[simp] theorem State.setIy_d (v : Word) : (s.setIy v).d = s.d := rfl
@[simp] theorem State.setIy_e (v : Word) : (s.setIy v).e = s.e := rfl
@[simp] theorem State.setIy_h (v : Word) : (s.setIy v).h = s.h := rfl
@[simp] theorem State.setIy_l (v : Word) : (s.setIy v).l = s.l := rfl
@[simp] theorem State.setIy_af' (v : Word) : (s.setIy v).af' = s.af' := rfl
@[simp] theorem State.setIy_bc' (v : Word) : (s.setIy v).bc' = s.bc' := rfl
@[simp] theorem State.setIy_de' (v : Word) : (s.setIy v).de' = s.de' := rfl
@[simp] theorem State.setIy_hl' (v : Word) : (s.setIy v).hl' = s.hl' := rfl
@[simp] theorem State.setIy_ix (v : Word) : (s.setIy v).ix = s.ix := rfl
@[simp] theorem State.setIy_iy (v : Word) : (s.setIy v).iy = v := rfl
@[simp] theorem State.setIy_sp (v : Word) : (s.setIy v).sp = s.sp := rfl
@[simp] theorem State.setIy_pc (v : Word) : (s.setIy v).pc = s.pc := rfl
@[simp] theorem State.setIy_wz (v : Word) : (s.setIy v).wz = s.wz := rfl
@[simp] theorem State.setIy_i (v : Word) : (s.setIy v).i = s.i := rfl
@[simp] theorem State.setIy_r (v : Word) : (s.setIy v).r = s.r := rfl
@[simp] theorem State.setIy_iff1 (v : Word) : (s.setIy v).iff1 = s.iff1 := rfl
@[simp] theorem State.setIy_iff2 (v : Word) : (s.setIy v).iff2 = s.iff2 := rfl
@[simp] theorem State.setIy_im (v : Word) : (s.setIy v).im = s.im := rfl
@[simp] theorem State.setIy_req (v : Word) : (s.setIy v).req = s.req := rfl
@[simp] theorem State.setIy_irqDelay (v : Word) : (s.setIy v).irqDelay = s.irqDelay := rfl
@[simp] theorem State.setIy_halted (v : Word) : (s.setIy v).halted = s.halted := rfl
@[simp] theorem State.setIy_mem (v : Word) : (s.setIy v).mem = s.mem := rfl
@[simp] theorem State.setIy_portIn (v : Word) : (s.setIy v).portIn = s.portIn := rfl
@[simp] theorem State.setIy_freeCount (v : Word) : (s.setIy v).freeCount = s.freeCount := rfl
@[simp] theorem State.setIy_env (v : Word) : (s.setIy v).env = s.env := rfl
@[simp] theorem State.setIy_inside (v : Word) : (s.setIy v).inside = s.inside := rfl
@[simp] theorem State.setIy_trace (v : Word) : (s.setIy v).trace = s.trace := rfl

/-! ### `setSp` -/

@[simp] theorem State.setSp_a (v : Word) : (s.setSp v).a = s.a := rfl
@[simp] theorem State.setSp_f (v : Word) : (s.setSp v).f = s.f := rfl
@[simp] theorem State.setSp_b (v : Word) : (s.setSp v).b = s.b := rfl
@[simp] theorem State.setSp_c (v : Word) : (s.setSp v).c = s.c := rfl
@[simp] theorem State.setSp_d (v : Word) : (s.setSp v).d = s.d := rfl
@[simp] theorem State.setSp_e (v : Word) : (s.setSp v).e = s.e := rfl
@[simp] theorem State.setSp_h (v : Word) : (s.setSp v).h = s.h := rfl
@[simp] theorem State.setSp_l (v : Word) : (s.setSp v).l = s.l := rfl
@[simp] theorem State.setSp_af' (v : Word) : (s.setSp v).af' = s.af' := rfl
@[simp] theorem State.setSp_bc' (v : Word) : (s.setSp v).bc' = s.bc' := rfl
@[simp] theorem State.setSp_de' (v : Word) : (s.setSp v).de' = s.de' := rfl
@[simp] theorem State.setSp_hl' (v : Word) : (s.setSp v).hl' = s.hl' := rfl
@[simp] theorem State.setSp_ix (v : Word) : (s.setSp v).ix = s.ix := rfl
@[simp] theorem State.setSp_iy (v : Word) : (s.setSp v).iy = s.iy := rfl
@[simp] theorem State.setSp_sp (v : Word) : (s.setSp v).sp = v := rfl
@[simp] theorem State.setSp_pc (v : Word) : (s.setSp v).pc = s.pc := rfl
@[simp] theorem State.setSp_wz (v : Word) : (s.setSp v).wz = s.wz := rfl
@[simp] theorem State.setSp_i (v : Word) : (s.setSp v).i = s.i := rfl
@[simp] theorem State.setSp_r (v : Word) : (s.setSp v).r = s.r := rfl
@[simp] theorem State.setSp_iff1 (v : Word) : (s.setSp v).iff1 = s.iff1 := rfl
@[simp] theorem State.setSp_iff2 (v : Word) : (s.setSp v).iff2 = s.iff2 := rfl
@[simp] theorem State.setSp_im (v : Word) : (s.setSp v).im = s.im := rfl
@[simp] theorem State.setSp_req (v : Word) : (s.setSp v).req = s.req := rfl
@[simp] theorem State.setSp_irqDelay (v : Word) : (s.setSp v).irqDelay = s.irqDelay := rfl
@[simp] theorem State.setSp_halted (v : Word) : (s.setSp v).halted = s.halted := rfl
@[simp] theorem State.setSp_mem (v : Word) : (s.setSp v).mem = s.mem := rfl
@[simp] theorem State.setSp_portIn (v : Word) : (s.setSp v).portIn = s.portIn := rfl
@[simp] theorem State.setSp_freeCount (v : Word) : (s.setSp v).freeCount = s.freeCount := rfl
@[simp] theorem State.setSp_env (v : Word) : (s.setSp v).env = s.env := rfl
@[simp] theorem State.setSp_inside (v : Word) : (s.setSp v).inside = s.inside := rfl
@[simp] theorem State.setSp_trace (v : Word) : (s.setSp v).trace = s.trace := rfl

/-! ### `setPc` -/

@[simp] theorem State.setPc_a (v : Word) : (s.setPc v).a = s.a := rfl
@[simp] theorem State.setPc_f (v : Word) : (s.setPc v).f = s.f := rfl
@[simp] theorem State.setPc_b (v : Word) : (s.setPc v).b = s.b := rfl
@[simp] theorem State.setPc_c (v : Word) : (s.setPc v).c = s.c := rfl
@[simp] theorem State.setPc_d (v : Word) : (s.setPc v).d = s.d := rfl
@[simp] theorem State.setPc_e (v : Word) : (s.setPc v).e = s.e := rfl
@[simp] theorem State.setPc_h (v : Word) : (s.setPc v).h = s.h := rfl
@[simp] theorem State.setPc_l (v : Word) : (s.setPc v).l = s.l := rfl
@[simp] theorem State.setPc_af' (v : Word) : (s.setPc v).af' = s.af' := rfl
@[simp] theorem State.setPc_bc' (v : Word) : (s.setPc v).bc' = s.bc' := rfl
@[simp] theorem State.setPc_de' (v : Word) : (s.setPc v).de' = s.de' := rfl
@[simp] theorem State.setPc_hl' (v : Word) : (s.setPc v).hl' = s.hl' := rfl
@[simp] theorem State.setPc_ix (v : Word) : (s.setPc v).ix = s.ix := rfl
@[simp] theorem State.setPc_iy (v : Word) : (s.setPc v).iy = s.iy := rfl
@[simp] theorem State.setPc_sp (v : Word) : (s.setPc v).sp = s.sp := rfl
@[simp] theorem State.setPc_pc (v : Word) : (s.setPc v).pc = v := rfl
@[simp] theorem State.setPc_wz (v : Word) : (s.setPc v).wz = s.wz := rfl
@[simp] theorem State.setPc_i (v : Word) : (s.setPc v).i = s.i := rfl
@[simp] theorem State.setPc_r (v : Word) : (s.setPc v).r = s.r := rfl
@[simp] theorem State.setPc_iff1 (v : Word) : (s.setPc v).iff1 = s.iff1 := rfl
@[simp] theorem State.setPc_iff2 (v : Word) : (s.setPc v).iff2 = s.iff2 := rfl
@[simp] theorem State.setPc_im (v : Word) : (s.setPc v).im = s.im := rfl
@[simp] theorem State.setPc_req (v : Word) : (s.setPc v).req = s.req := rfl
@[simp] theorem State.setPc_irqDelay (v : Word) : (s.setPc v).irqDelay = s.irqDelay := rfl
@[simp] theorem State.setPc_halted (v : Word) : (s.setPc v).halted = s.halted := rfl
@[simp] theorem State.setPc_mem (v : Word) : (s.setPc v).mem = s.mem := rfl
@[simp] theorem State.setPc_portIn (v : Word) : (s.setPc v).portIn = s.portIn := rfl
@[simp] theorem State.setPc_freeCount (v : Word) : (s.setPc v).freeCount = s.freeCount := rfl
@[simp] theorem State.setPc_env (v : Word) : (s.setPc v).env = s.env := rfl
@[simp] theorem State.setPc_inside (v : Word) : (s.setPc v).inside = s.inside := rfl
@[simp] theorem State.setPc_trace (v : Word) : (s.setPc v).trace = s.trace := rfl

/-! ### `setWz` -/

@[simp] theorem State.setWz_a (v : Word) : (s.setWz v).a = s.a := rfl
@[simp] theorem State.setWz_f (v : Word) : (s.setWz v).f = s.f := rfl
@[simp] theorem State.setWz_b (v : Word) : (s.setWz v).b = s.b := rfl
@[simp] theorem State.setWz_c (v : Word) : (s.setWz v).c = s.c := rfl
@[simp] theorem State.setWz_d (v : Word) : (s.setWz v).d = s.d := rfl
@[simp] theorem State.setWz_e (v : Word) : (s.setWz v).e = s.e := rfl
@[simp] theorem State.setWz_h (v : Word) : (s.setWz v).h = s.h := rfl
@[simp] theorem State.setWz_l (v : Word) : (s.setWz v).l = s.l := rfl
@[simp] theorem State.setWz_af' (v : Word) : (s.setWz v).af' = s.af' := rfl
@[simp] theorem State.setWz_bc' (v : Word) : (s.setWz v).bc' = s.bc' := rfl
@[simp] theorem State.setWz_de' (v : Word) : (s.setWz v).de' = s.de' := rfl
@[simp] theorem State.setWz_hl' (v : Word) : (s.setWz v).hl' = s.hl' := rfl
@[simp] theorem State.setWz_ix (v : Word) : (s.setWz v).ix = s.ix := rfl
@[simp] theorem State.setWz_iy (v : Word) : (s.setWz v).iy = s.iy := rfl
@[simp] theorem State.setWz_sp (v : Word) : (s.setWz v).sp = s.sp := rfl
@[simp] theorem State.setWz_pc (v : Word) : (s.setWz v).pc = s.pc := rfl
@[simp] theorem State.setWz_wz (v : Word) : (s.setWz v).wz = v := rfl
@[simp] theorem State.setWz_i (v : Word) : (s.setWz v).i = s.i := rfl
@[simp] theorem State.setWz_r (v : Word) : (s.setWz v).r = s.r := rfl
@[simp] theorem State.setWz_iff1 (v : Word) : (s.setWz v).iff1 = s.iff1 := rfl
@[simp] theorem State.setWz_iff2 (v : Word) : (s.setWz v).iff2 = s.iff2 := rfl
@[simp] theorem State.setWz_im (v : Word) : (s.setWz v).im = s.im := rfl
@[simp] theorem State.setWz_req (v : Word) : (s.setWz v).req = s.req := rfl
@[simp] theorem State.setWz_irqDelay (v : Word) : (s.setWz v).irqDelay = s.irqDelay := rfl
@[simp] theorem State.setWz_halted (v : Word) : (s.setWz v).halted = s.halted := rfl
@[simp] theorem State.setWz_mem (v : Word) : (s.setWz v).mem = s.mem := rfl
@[simp] theorem State.setWz_portIn (v : Word) : (s.setWz v).portIn = s.portIn := rfl
@[simp] theorem State.setWz_freeCount (v : Word) : (s.setWz v).freeCount = s.freeCount := rfl
@[simp] theorem State.setWz_env (v : Word) : (s.setWz v).env = s.env := rfl
@[simp] theorem State.setWz_inside (v : Word) : (s.setWz v).inside = s.inside := rfl
@[simp] theorem State.setWz_trace (v : Word) : (s.setWz v).trace = s.trace := rfl

/-! ### `setI` -/

@[simp] theorem State.setI_a (v : Byte) : (s.setI v).a = s.a := rfl
@[simp] theorem State.setI_f (v : Byte) : (s.setI v).f = s.f := rfl
@[simp] theorem State.setI_b (v : Byte) : (s.setI v).b = s.b := rfl
@[simp] theorem State.setI_c (v : Byte) : (s.setI v).c = s.c := rfl
@[simp] theorem State.setI_d (v : Byte) : (s.setI v).d = s.d := rfl
@[simp] theorem State.setI_e (v : Byte) : (s.setI v).e = s.e := rfl
@[simp] theorem State.setI_h (v : Byte) : (s.setI v).h = s.h := rfl
@[simp] theorem State.setI_l (v : Byte) : (s.setI v).l = s.l := rfl
@[simp] theorem State.setI_af' (v : Byte) : (s.setI v).af' = s.af' := rfl
@[simp] theorem State.setI_bc' (v : Byte) : (s.setI v).bc' = s.bc' := rfl
@[simp] theorem State.setI_de' (v : Byte) : (s.setI v).de' = s.de' := rfl
@[simp] theorem State.setI_hl' (v : Byte) : (s.setI v).hl' = s.hl' := rfl
@[simp] theorem State.setI_ix (v : Byte) : (s.setI v).ix = s.ix := rfl
@[simp] theorem State.setI_iy (v : Byte) : (s.setI v).iy = s.iy := rfl
@[simp] theorem State.setI_sp (v : Byte) : (s.setI v).sp = s.sp := rfl
@[simp] theorem State.setI_pc (v : Byte) : (s.setI v).pc = s.pc := rfl
@[simp] theorem State.setI_wz (v : Byte) : (s.setI v).wz = s.wz := rfl
@[simp] theorem State.setI_i (v : Byte) : (s.setI v).i = v := rfl
@[simp] theorem State.setI_r (v : Byte) : (s.setI v).r = s.r := rfl
@[simp] theorem State.setI_iff1 (v : Byte) : (s.setI v).iff1 = s.iff1 := rfl
@[simp] theorem State.setI_iff2 (v : Byte) : (s.setI v).iff2 = s.iff2 := rfl
@[simp] theorem State.setI_im (v : Byte) : (s.setI v).im = s.im := rfl
@[simp] theorem State.setI_req (v : Byte) : (s.setI v).req = s.req := rfl
@[simp] theorem State.setI_irqDelay (v : Byte) : (s.setI v).irqDelay = s.irqDelay := rfl
@[simp] theorem State.setI_halted (v : Byte) : (s.setI v).halted = s.halted := rfl
@[simp] theorem State.setI_mem (v : Byte) : (s.setI v).mem = s.mem := rfl
@[simp] theorem State.setI_portIn (v : Byte) : (s.setI v).portIn = s.portIn := rfl
@[simp] theorem State.setI_freeCount (v : Byte) : (s.setI v).freeCount = s.freeCount := rfl
@[simp] theorem State.setI_env (v : Byte) : (s.setI v).env = s.env := rfl
@[simp] theorem State.setI_inside (v : Byte) : (s.setI v).inside = s.inside := rfl
@[simp] theorem State.setI_trace (v : Byte) : (s.setI v).trace = s.trace := rfl

/-! ### `setR` -/

@[simp] theorem State.setR_a (v : Byte) : (s.setR v).a = s.a := rfl
@[simp] theorem State.setR_f (v : Byte) : (s.setR v).f = s.f := rfl
@[simp] theorem State.setR_b (v : Byte) : (s.setR v).b = s.b := rfl
@[simp] theorem State.setR_c (v : Byte) : (s.setR v).c = s.c := rfl
@[simp] theorem State.setR_d (v : Byte) : (s.setR v).d = s.d := rfl
@[simp] theorem State.setR_e (v : Byte) : (s.setR v).e = s.e := rfl
@[simp] theorem State.setR_h (v : Byte) : (s.setR v).h = s.h := rfl
@[simp] theorem State.setR_l (v : Byte) : (s.setR v).l = s.l := rfl
@[simp] theorem State.setR_af' (v : Byte) : (s.setR v).af' = s.af' := rfl
@[simp] theorem State.setR_bc' (v : Byte) : (s.setR v).bc' = s.bc' := rfl
@[simp] theorem State.setR_de' (v : Byte) : (s.setR v).de' = s.de' := rfl
@[simp] theorem State.setR_hl' (v : Byte) : (s.setR v).hl' = s.hl' := rfl
@[simp] theorem State.setR_ix (v : Byte) : (s.setR v).ix = s.ix := rfl
@[simp] theorem State.setR_iy (v : Byte) : (s.setR v).iy = s.iy := rfl
@[simp] theorem State.setR_sp (v : Byte) : (s.setR v).sp = s.sp := rfl
@[simp] theorem State.setR_pc (v : Byte) : (s.setR v).pc = s.pc := rfl
@[simp] theorem State.setR_wz (v : Byte) : (s.setR v).wz = s.wz := rfl
@[simp] theorem State.setR_i (v : Byte) : (s.setR v).i = s.i := rfl
@[simp] theorem State.setR_r (v : Byte) : (s.setR v).r = v := rfl
@[simp] theorem State.setR_iff1 (v : Byte) : (s.setR v).iff1 = s.iff1 := rfl
@[simp] theorem State.setR_iff2 (v : Byte) : (s.setR v).iff2 = s.iff2 := rfl
@[simp] theorem State.setR_im (v : Byte) : (s.setR v).im = s.im := rfl
@[simp] theorem State.setR_req (v : Byte) : (s.setR v).req = s.req := rfl
@[simp] theorem State.setR_irqDelay (v : Byte) : (s.setR v).irqDelay = s.irqDelay := rfl
@[simp] theorem State.setR_halted (v : Byte) : (s.setR v).halted = s.halted := rfl
@[simp] theorem State.setR_mem (v : Byte) : (s.setR v).mem = s.mem := rfl
@[simp] theorem State.setR_portIn (v : Byte) : (s.setR v).portIn = s.portIn := rfl
@[simp] theorem State.setR_freeCount (v : Byte) : (s.setR v).freeCount = s.freeCount := rfl
@[simp] theorem State.setR_env (v : Byte) : (s.setR v).env = s.env := rfl
@[simp] theorem State.setR_inside (v : Byte) : (s.setR v).inside = s.inside := rfl
@[simp] theorem State.setR_trace (v : Byte) : (s.setR v).trace = s.trace := rfl

/-! ### `setIff1` -/

@[simp] theorem State.setIff1_a (v : Bool) : (s.setIff1 v).a = s.a := rfl
@[simp] theorem State.setIff1_f (v : Bool) : (s.setIff1 v).f = s.f := rfl
@[simp] theorem State.setIff1_b (v : Bool) : (s.setIff1 v).b = s.b := rfl
@[simp] theorem State.setIff1_c (v : Bool) : (s.setIff1 v).c = s.c := rfl
@[simp] theorem State.setIff1_d (v : Bool) : (s.setIff1 v).d = s.d := rfl
@[simp] theorem State.setIff1_e (v : Bool) : (s.setIff1 v).e = s.e := rfl
@[simp] theorem State.setIff1_h (v : Bool) : (s.setIff1 v).h = s.h := rfl
@[simp] theorem State.setIff1_l (v : Bool) : (s.setIff1 v).l = s.l := rfl
@[simp] theorem State.setIff1_af' (v : Bool) : (s.setIff1 v).af' = s.af' := rfl
@[simp] theorem State.setIff1_bc' (v : Bool) : (s.setIff1 v).bc' = s.bc' := rfl
@[simp] theorem State.setIff1_de' (v : Bool) : (s.setIff1 v).de' = s.de' := rfl
@[simp] theorem State.setIff1_hl' (v : Bool) : (s.setIff1 v).hl' = s.hl' := rfl
@[simp] theorem State.setIff1_ix (v : Bool) : (s.setIff1 v).ix = s.ix := rfl
@[simp] theorem State.setIff1_iy (v : Bool) : (s.setIff1 v).iy = s.iy := rfl
@[simp] theorem State.setIff1_sp (v : Bool) : (s.setIff1 v).sp = s.sp := rfl
@[simp] theorem State.setIff1_pc (v : Bool) : (s.setIff1 v).pc = s.pc := rfl
@[simp] theorem State.setIff1_wz (v : Bool) : (s.setIff1 v).wz = s.wz := rfl
@[simp] theorem State.setIff1_i (v : Bool) : (s.setIff1 v).i = s.i := rfl
@[simp] theorem State.setIff1_r (v : Bool) : (s.setIff1 v).r = s.r := rfl
@[simp] theorem State.setIff1_iff1 (v : Bool) : (s.setIff1 v).iff1 = v := rfl
@[simp] theorem State.setIff1_iff2 (v : Bool) : (s.setIff1 v).iff2 = s.iff2 := rfl
@[simp] theorem State.setIff1_im (v : Bool) : (s.setIff1 v).im = s.im := rfl
@[simp] theorem State.setIff1_req (v : Bool) : (s.setIff1 v).req = s.req := rfl
@[simp] theorem State.setIff1_irqDelay (v : Bool) : (s.setIff1 v).irqDelay = s.irqDelay := rfl
@[simp] theorem State.setIff1_halted (v : Bool) : (s.setIff1 v).halted = s.halted := rfl
@[simp] theorem State.setIff1_mem (v : Bool) : (s.setIff1 v).mem = s.mem := rfl
@[simp] theorem State.setIff1_portIn (v : Bool) : (s.setIff1 v).portIn = s.portIn := rfl
@[simp] theorem State.setIff1_freeCount (v : Bool) : (s.setIff1 v).freeCount = s.freeCount := rfl
@[simp] theorem State.setIff1_env (v : Bool) : (s.setIff1 v).env = s.env := rfl
@[simp] theorem State.setIff1_inside (v : Bool) : (s.setIff1 v).inside = s.inside := rfl
@[simp] theorem State.setIff1_trace (v : Bool) : (s.setIff1 v).trace = s.trace := rfl

/-! ### `setIff2` -/

@[simp] theorem State.setIff2_a (v : Bool) : (s.setIff2 v).a = s.a := rfl
@[simp] theorem State.setIff2_f (v : Bool) : (s.setIff2 v).f = s.f := rfl
@[simp] theorem State.setIff2_b (v : Bool) : (s.setIff2 v).b = s.b := rfl
@[simp] theorem State.setIff2_c (v : Bool) : (s.setIff2 v).c = s.c := rfl
@[simp] theorem State.setIff2_d (v : Bool) : (s.setIff2 v).d = s.d := rfl
@[simp] theorem State.setIff2_e (v : Bool) : (s.setIff2 v).e = s.e := rfl
@[simp] theorem State.setIff2_h (v : Bool) : (s.setIff2 v).h = s.h := rfl
@[simp] theorem State.setIff2_l (v : Bool) : (s.setIff2 v).l = s.l := rfl
@[simp] theorem State.setIff2_af' (v : Bool) : (s.setIff2 v).af' = s.af' := rfl
@[simp] theorem State.setIff2_bc' (v : Bool) : (s.setIff2 v).bc' = s.bc' := rfl
@[simp] theorem State.setIff2_de' (v : Bool) : (s.setIff2 v).de' = s.de' := rfl
@[simp] theorem State.setIff2_hl' (v : Bool) : (s.setIff2 v).hl' = s.hl' := rfl
@[simp] theorem State.setIff2_ix (v : Bool) : (s.setIff2 v).ix = s.ix := rfl
@[simp] theorem State.setIff2_iy (v : Bool) : (s.setIff2 v).iy = s.iy := rfl
@[simp] theorem State.setIff2_sp (v : Bool) : (s.setIff2 v).sp = s.sp := rfl
@[simp] theorem State.setIff2_pc (v : Bool) : (s.setIff2 v).pc = s.pc := rfl
@[simp] theorem State.setIff2_wz (v : Bool) : (s.setIff2 v).wz = s.wz := rfl
@[simp] theorem State.setIff2_i (v : Bool) : (s.setIff2 v).i = s.i := rfl
@[simp] theorem State.setIff2_r (v : Bool) : (s.setIff2 v).r = s.r := rfl
@[simp] theorem State.setIff2_iff1 (v : Bool) : (s.setIff2 v).iff1 = s.iff1 := rfl
@[simp] theorem State.setIff2_iff2 (v : Bool) : (s.setIff2 v).iff2 = v := rfl
@[simp] theorem State.setIff2_im (v : Bool) : (s.setIff2 v).im = s.im := rfl
@[simp] theorem State.setIff2_req (v : Bool) : (s.setIff2 v).req = s.req := rfl
@[simp] theorem State.setIff2_irqDelay (v : Bool) : (s.setIff2 v).irqDelay = s.irqDelay := rfl
@[simp] theorem State.setIff2_halted (v : Bool) : (s.setIff2 v).halted = s.halted := rfl
@[simp] theorem State.setIff2_mem (v : Bool) : (s.setIff2 v).mem = s.mem := rfl
@[simp] theorem State.setIff2_portIn (v : Bool) : (s.setIff2 v).portIn = s.portIn := rfl
@[simp] theorem State.setIff2_freeCount (v : Bool) : (s.setIff2 v).freeCount = s.freeCount := rfl
@[simp] theorem State.setIff2_env (v : Bool) : (s.setIff2 v).env = s.env := rfl
@[simp] theorem State.setIff2_inside (v : Bool) : (s.setIff2 v).inside = s.inside := rfl
@[simp] theorem State.setIff2_trace (v : Bool) : (s.setIff2 v).trace = s.trace := rfl

/-! ### `setIm` -/

@[simp] theorem State.setIm_a (v : IntMode) : (s.setIm v).a = s.a := rfl
@[simp] theorem State.setIm_f (v : IntMode) : (s.setIm v).f = s.f := rfl
@[simp] theorem State.setIm_b (v : IntMode) : (s.setIm v).b = s.b := rfl
@[simp] theorem State.setIm_c (v : IntMode) : (s.setIm v).c = s.c := rfl
@[simp] theorem State.setIm_d (v : IntMode) : (s.setIm v).d = s.d := rfl
@[simp] theorem State.setIm_e (v : IntMode) : (s.setIm v).e = s.e := rfl
@[simp] theorem State.setIm_h (v : IntMode) : (s.setIm v).h = s.h := rfl
@[simp] theorem State.setIm_l (v : IntMode) : (s.setIm v).l = s.l := rfl
@[simp] theorem State.setIm_af' (v : IntMode) : (s.setIm v).af' = s.af' := rfl
@[simp] theorem State.setIm_bc' (v : IntMode) : (s.setIm v).bc' = s.bc' := rfl
@[simp] theorem State.setIm_de' (v : IntMode) : (s.setIm v).de' = s.de' := rfl
@[simp] theorem State.setIm_hl' (v : IntMode) : (s.setIm v).hl' = s.hl' := rfl
@[simp] theorem State.setIm_ix (v : IntMode) : (s.setIm v).ix = s.ix := rfl
@[simp] theorem State.setIm_iy (v : IntMode) : (s.setIm v).iy = s.iy := rfl
@[simp] theorem State.setIm_sp (v : IntMode) : (s.setIm v).sp = s.sp := rfl
@[simp] theorem State.setIm_pc (v : IntMode) : (s.setIm v).pc = s.pc := rfl
@[simp] theorem State.setIm_wz (v : IntMode) : (s.setIm v).wz = s.wz := rfl
@[simp] theorem State.setIm_i (v : IntMode) : (s.setIm v).i = s.i := rfl
@[simp] theorem State.setIm_r (v : IntMode) : (s.setIm v).r = s.r := rfl
@[simp] theorem State.setIm_iff1 (v : IntMode) : (s.setIm v).iff1 = s.iff1 := rfl
@[simp] theorem State.setIm_iff2 (v : IntMode) : (s.setIm v).iff2 = s.iff2 := rfl
@[simp] theorem State.setIm_im (v : IntMode) : (s.setIm v).im = v := rfl
@[simp] theorem State.setIm_req (v : IntMode) : (s.setIm v).req = s.req := rfl
@[simp] theorem State.setIm_irqDelay (v : IntMode) : (s.setIm v).irqDelay = s.irqDelay := rfl
@[simp] theorem State.setIm_halted (v : IntMode) : (s.setIm v).halted = s.halted := rfl
@[simp] theorem State.setIm_mem (v : IntMode) : (s.setIm v).mem = s.mem := rfl
@[simp] theorem State.setIm_portIn (v : IntMode) : (s.setIm v).portIn = s.portIn := rfl
@[simp] theorem State.setIm_freeCount (v : IntMode) : (s.setIm v).freeCount = s.freeCount := rfl
@[simp] theorem State.setIm_env (v : IntMode) : (s.setIm v).env = s.env := rfl
@[simp] theorem State.setIm_inside (v : IntMode) : (s.setIm v).inside = s.inside := rfl
@[simp] theorem State.setIm_trace (v : IntMode) : (s.setIm v).trace = s.trace := rfl

/-! ### `setReq` -/

@[simp] theorem State.setReq_a (v : Req) : (s.setReq v).a = s.a := rfl
@[simp] theorem State.setReq_f (v : Req) : (s.setReq v).f = s.f := rfl
@[simp] theorem State.setReq_b (v : Req) : (s.setReq v).b = s.b := rfl
@[simp] theorem State.setReq_c (v : Req) : (s.setReq v).c = s.c := rfl
@[simp] theorem State.setReq_d (v : Req) : (s.setReq v).d = s.d := rfl
@[simp] theorem State.setReq_e (v : Req) : (s.setReq v).e = s.e := rfl
@[simp] theorem State.setReq_h (v : Req) : (s.setReq v).h = s.h := rfl
@[simp] theorem State.setReq_l (v : Req) : (s.setReq v).l = s.l := rfl
@[simp] theorem State.setReq_af' (v : Req) : (s.setReq v).af' = s.af' := rfl
@[simp] theorem State.setReq_bc' (v : Req) : (s.setReq v).bc' = s.bc' := rfl
@[simp] theorem State.setReq_de' (v : Req) : (s.setReq v).de' = s.de' := rfl
@[simp] theorem State.setReq_hl' (v : Req) : (s.setReq v).hl' = s.hl' := rfl
@[simp] theorem State.setReq_ix (v : Req) : (s.setReq v).ix = s.ix := rfl
@[simp] theorem State.setReq_iy (v : Req) : (s.setReq v).iy = s.iy := rfl
@[simp] theorem State.setReq_sp (v : Req) : (s.setReq v).sp = s.sp := rfl
@[simp] theorem State.setReq_pc (v : Req) : (s.setReq v).pc = s.pc := rfl
@[simp] theorem State.setReq_wz (v : Req) : (s.setReq v).wz = s.wz := rfl
@[simp] theorem State.setReq_i (v : Req) : (s.setReq v).i = s.i := rfl
@[simp] theorem State.setReq_r (v : Req) : (s.setReq v).r = s.r := rfl
@[simp] theorem State.setReq_iff1 (v : Req) : (s.setReq v).iff1 = s.iff1 := rfl
@[simp] theorem State.setReq_iff2 (v : Req) : (s.setReq v).iff2 = s.iff2 := rfl
@[simp] theorem State.setReq_im (v : Req) : (s.setReq v).im = s.im := rfl
@[simp] theorem State.setReq_req (v : Req) : (s.setReq v).req = v := rfl
@[simp] theorem State.setReq_irqDelay (v : Req) : (s.setReq v).irqDelay = s.irqDelay := rfl
@[simp] theorem State.setReq_halted (v : Req) : (s.setReq v).halted = s.halted := rfl
@[simp] theorem State.setReq_mem (v : Req) : (s.setReq v).mem = s.mem := rfl
@[simp] theorem State.setReq_portIn (v : Req) : (s.setReq v).portIn = s.portIn := rfl
@[simp] theorem State.setReq_freeCount (v : Req) : (s.setReq v).freeCount = s.freeCount := rfl
@[simp] theorem State.setReq_env (v : Req) : (s.setReq v).env = s.env := rfl
@[simp] theorem State.setReq_inside (v : Req) : (s.setReq v).inside = s.inside := rfl
@[simp] theorem State.setReq_trace (v : Req) : (s.setReq v).trace = s.trace := rfl

/-! ### `setIrqDelay` -/

@[simp] theorem State.setIrqDelay_a (v : Bool) : (s.setIrqDelay v).a = s.a := rfl
@[simp] theorem State.setIrqDelay_f (v : Bool) : (s.setIrqDelay v).f = s.f := rfl
@[simp] theorem State.setIrqDelay_b (v : Bool) : (s.setIrqDelay v).b = s.b := rfl
@[simp] theorem State.setIrqDelay_c (v : Bool) : (s.setIrqDelay v).c = s.c := rfl
@[simp] theorem State.setIrqDelay_d (v : Bool) : (s.setIrqDelay v).d = s.d := rfl
@[simp] theorem State.setIrqDelay_e (v : Bool) : (s.setIrqDelay v).e = s.e := rfl
@[simp] theorem State.setIrqDelay_h (v : Bool) : (s.setIrqDelay v).h = s.h := rfl
@[simp] theorem State.setIrqDelay_l (v : Bool) : (s.setIrqDelay v).l = s.l := rfl
@[simp] theorem State.setIrqDelay_af' (v : Bool) : (s.setIrqDelay v).af' = s.af' := rfl
@[simp] theorem State.setIrqDelay_bc' (v : Bool) : (s.setIrqDelay v).bc' = s.bc' := rfl
@[simp] theorem State.setIrqDelay_de' (v : Bool) : (s.setIrqDelay v).de' = s.de' := rfl
@[simp] theorem State.setIrqDelay_hl' (v : Bool) : (s.setIrqDelay v).hl' = s.hl' := rfl
@[simp] theorem State.setIrqDelay_ix (v : Bool) : (s.setIrqDelay v).ix = s.ix := rfl
@[simp] theorem State.setIrqDelay_iy (v : Bool) : (s.setIrqDelay v).iy = s.iy := rfl
@[simp] theorem State.setIrqDelay_sp (v : Bool) : (s.setIrqDelay v).sp = s.sp := rfl
@[simp] theorem State.setIrqDelay_pc (v : Bool) : (s.setIrqDelay v).pc = s.pc := rfl
@[simp] theorem State.setIrqDelay_wz (v : Bool) : (s.setIrqDelay v).wz = s.wz := rfl
@[simp] theorem State.setIrqDelay_i (v : Bool) : (s.setIrqDelay v).i = s.i := rfl
@[simp] theorem State.setIrqDelay_r (v : Bool) : (s.setIrqDelay v).r = s.r := rfl
@[simp] theorem State.setIrqDelay_iff1 (v : Bool) : (s.setIrqDelay v).iff1 = s.iff1 := rfl
@[simp] theorem State.setIrqDelay_iff2 (v : Bool) : (s.setIrqDelay v).iff2 = s.iff2 := rfl
@[simp] theorem State.setIrqDelay_im (v : Bool) : (s.setIrqDelay v).im = s.im := rfl
@[simp] theorem State.setIrqDelay_req (v : Bool) : (s.setIrqDelay v).req = s.req := rfl
@[simp] theorem State.setIrqDelay_irqDelay (v : Bool) : (s.setIrqDelay v).irqDelay = v := rfl
@[simp] theorem State.setIrqDelay_halted (v : Bool) : (s.setIrqDelay v).halted = s.halted := rfl
@[simp] theorem State.setIrqDelay_mem (v : Bool) : (s.setIrqDelay v).mem = s.mem := rfl
@[simp] theorem State.setIrqDelay_portIn (v : Bool) : (s.setIrqDelay v).portIn = s.portIn := rfl
@[simp] theorem State.setIrqDelay_freeCount (v : Bool) : (s.setIrqDelay v).freeCount = s.freeCount := rfl
@[simp] theorem State.setIrqDelay_env (v : Bool) : (s.setIrqDelay v).env = s.env := rfl
@[simp] theorem State.setIrqDelay_inside (v : Bool) : (s.setIrqDelay v).inside = s.inside := rfl
@[simp] theorem State.setIrqDelay_trace (v : Bool) : (s.setIrqDelay v).trace = s.trace := rfl

/-! ### `setHalted` -/

@[simp] theorem State.setHalted_a (v : Bool) : (s.setHalted v).a = s.a := rfl
@[simp] theorem State.setHalted_f (v : Bool) : (s.setHalted v).f = s.f := rfl
@[simp] theorem State.setHalted_b (v : Bool) : (s.setHalted v).b = s.b := rfl
@[simp] theorem State.setHalted_c (v : Bool) : (s.setHalted v).c = s.c := rfl
@[simp] theorem State.setHalted_d (v : Bool) : (s.setHalted v).d = s.d := rfl
@[simp] theorem State.setHalted_e (v : Bool) : (s.setHalted v).e = s.e := rfl
@[simp] theorem State.setHalted_h (v : Bool) : (s.setHalted v).h = s.h := rfl
@[simp] theorem State.setHalted_l (v : Bool) : (s.setHalted v).l = s.l := rfl
@[simp] theorem State.setHalted_af' (v : Bool) : (s.setHalted v).af' = s.af' := rfl
@[simp] theorem State.setHalted_bc' (v : Bool) : (s.setHalted v).bc' = s.bc' := rfl
@[simp] theorem State.setHalted_de' (v : Bool) : (s.setHalted v).de' = s.de' := rfl
@[simp] theorem State.setHalted_hl' (v : Bool) : (s.setHalted v).hl' = s.hl' := rfl
@[simp] theorem State.setHalted_ix (v : Bool) : (s.setHalted v).ix = s.ix := rfl
@[simp] theorem State.setHalted_iy (v : Bool) : (s.setHalted v).iy = s.iy := rfl
@[simp] theorem State.setHalted_sp (v : Bool) : (s.setHalted v).sp = s.sp := rfl
@[simp] theorem State.setHalted_pc (v : Bool) : (s.setHalted v).pc = s.pc := rfl
@[simp] theorem State.setHalted_wz (v : Bool) : (s.setHalted v).wz = s.wz := rfl
@[simp] theorem State.setHalted_i (v : Bool) : (s.setHalted v).i = s.i := rfl
@[simp] theorem State.setHalted_r (v : Bool) : (s.setHalted v).r = s.r := rfl
@[simp] theorem State.setHalted_iff1 (v : Bool) : (s.setHalted v).iff1 = s.iff1 := rfl
@[simp] theorem State.setHalted_iff2 (v : Bool) : (s.setHalted v).iff2 = s.iff2 := rfl
@[simp] theorem State.setHalted_im (v : Bool) : (s.setHalted v).im = s.im := rfl
@[simp] theorem State.setHalted_req (v : Bool) : (s.setHalted v).req = s.req := rfl
@[simp] theorem State.setHalted_irqDelay (v : Bool) : (s.setHalted v).irqDelay = s.irqDelay := rfl
@[simp] theorem State.setHalted_halted (v : Bool) : (s.setHalted v).halted = v := rfl
@[simp] theorem State.setHalted_mem (v : Bool) : (s.setHalted v).mem = s.mem := rfl
@[simp] theorem State.setHalted_portIn (v : Bool) : (s.setHalted v).portIn = s.portIn := rfl
@[simp] theorem State.setHalted_freeCount (v : Bool) : (s.setHalted v).freeCount = s.freeCount := rfl
@[simp] theorem State.setHalted_env (v : Bool) : (s.setHalted v).env = s.env := rfl
@[simp] theorem State.setHalted_inside (v : Bool) : (s.setHalted v).inside = s.inside := rfl
@[simp] theorem State.setHalted_trace (v : Bool) : (s.setHalted v).trace = s.trace := rfl

/-! ### `setMem` -/

@[simp] theorem State.setMem_a (v : Memory) : (s.setMem v).a = s.a := rfl
@[simp] theorem State.setMem_f (v : Memory) : (s.setMem v).f = s.f := rfl
@[simp] theorem State.setMem_b (v : Memory) : (s.setMem v).b = s.b := rfl
@[simp] theorem State.setMem_c (v : Memory) : (s.setMem v).c = s.c := rfl
@[simp] theorem State.setMem_d (v : Memory) : (s.setMem v).d = s.d := rfl
@[simp] theorem State.setMem_e (v : Memory) : (s.setMem v).e = s.e := rfl
@[simp] theorem State.setMem_h (v : Memory) : (s.setMem v).h = s.h := rfl
@[simp] theorem State.setMem_l (v : Memory) : (s.setMem v).l = s.l := rfl
@[simp] theorem State.setMem_af' (v : Memory) : (s.setMem v).af' = s.af' := rfl
@[simp] theorem State.setMem_bc' (v : Memory) : (s.setMem v).bc' = s.bc' := rfl
@[simp] theorem State.setMem_de' (v : Memory) : (s.setMem v).de' = s.de' := rfl
@[simp] theorem State.setMem_hl' (v : Memory) : (s.setMem v).hl' = s.hl' := rfl
@[simp] theorem State.setMem_ix (v : Memory) : (s.setMem v).ix = s.ix := rfl
@[simp] theorem State.setMem_iy (v : Memory) : (s.setMem v).iy = s.iy := rfl
@[simp] theorem State.setMem_sp (v : Memory) : (s.setMem v).sp = s.sp := rfl
@[simp] theorem State.setMem_pc (v : Memory) : (s.setMem v).pc = s.pc := rfl
@[simp] theorem State.setMem_wz (v : Memory) : (s.setMem v).wz = s.wz := rfl
@[simp] theorem State.setMem_i (v : Memory) : (s.setMem v).i = s.i := rfl
@[simp] theorem State.setMem_r (v : Memory) : (s.setMem v).r = s.r := rfl
@[simp] theorem State.setMem_iff1 (v : Memory) : (s.setMem v).iff1 = s.iff1 := rfl
@[simp] theorem State.setMem_iff2 (v : Memory) : (s.setMem v).iff2 = s.iff2 := rfl
@[simp] theorem State.setMem_im (v : Memory) : (s.setMem v).im = s.im := rfl
@[simp] theorem State.setMem_req (v : Memory) : (s.setMem v).req = s.req := rfl
@[simp] theorem State.setMem_irqDelay (v : Memory) : (s.setMem v).irqDelay = s.irqDelay := rfl
@[simp] theorem State.setMem_halted (v : Memory) : (s.setMem v).halted = s.halted := rfl
@[simp] theorem State.setMem_mem (v : Memory) : (s.setMem v).mem = v := rfl
@[simp] theorem State.setMem_portIn (v : Memory) : (s.setMem v).portIn = s.portIn := rfl
@[simp] theorem State.setMem_freeCount (v : Memory) : (s.setMem v).freeCount = s.freeCount := rfl
@[simp] theorem State.setMem_env (v : Memory) : (s.setMem v).env = s.env := rfl
@[simp] theorem State.setMem_inside (v : Memory) : (s.setMem v).inside = s.inside := rfl
@[simp] theorem State.setMem_trace (v : Memory) : (s.setMem v).trace = s.trace := rfl

/-! ### `setPortIn` -/

@[simp] theorem State.setPortIn_a (v : List Byte) : (s.setPortIn v).a = s.a := rfl
@[simp] theorem State.setPortIn_f (v : List Byte) : (s.setPortIn v).f = s.f := rfl
@[simp] theorem State.setPortIn_b (v : List Byte) : (s.setPortIn v).b = s.b := rfl
@[simp] theorem State.setPortIn_c (v : List Byte) : (s.setPortIn v).c = s.c := rfl
@[simp] theorem State.setPortIn_d (v : List Byte) : (s.setPortIn v).d = s.d := rfl
@[simp] theorem State.setPortIn_e (v : List Byte) : (s.setPortIn v).e = s.e := rfl
@[simp] theorem State.setPortIn_h (v : List Byte) : (s.setPortIn v).h = s.h := rfl
@[simp] theorem State.setPortIn_l (v : List Byte) : (s.setPortIn v).l = s.l := rfl
@[simp] theorem State.setPortIn_af' (v : List Byte) : (s.setPortIn v).af' = s.af' := rfl
@[simp] theorem State.setPortIn_bc' (v : List Byte) : (s.setPortIn v).bc' = s.bc' := rfl
@[simp] theorem State.setPortIn_de' (v : List Byte) : (s.setPortIn v).de' = s.de' := rfl
@[simp] theorem State.setPortIn_hl' (v : List Byte) : (s.setPortIn v).hl' = s.hl' := rfl
@[simp] theorem State.setPortIn_ix (v : List Byte) : (s.setPortIn v).ix = s.ix := rfl
@[simp] theorem State.setPortIn_iy (v : List Byte) : (s.setPortIn v).iy = s.iy := rfl
@[simp] theorem State.setPortIn_sp (v : List Byte) : (s.setPortIn v).sp = s.sp := rfl
@[simp] theorem State.setPortIn_pc (v : List Byte) : (s.setPortIn v).pc = s.pc := rfl
@[simp] theorem State.setPortIn_wz (v : List Byte) : (s.setPortIn v).wz = s.wz := rfl
@[simp] theorem State.setPortIn_i (v : List Byte) : (s.setPortIn v).i = s.i := rfl
@[simp] theorem State.setPortIn_r (v : List Byte) : (s.setPortIn v).r = s.r := rfl
@[simp] theorem State.setPortIn_iff1 (v : List Byte) : (s.setPortIn v).iff1 = s.iff1 := rfl
@[simp] theorem State.setPortIn_iff2 (v : List Byte) : (s.setPortIn v).iff2 = s.iff2 := rfl
@[simp] theorem State.setPortIn_im (v : List Byte) : (s.setPortIn v).im = s.im := rfl
@[simp] theorem State.setPortIn_req (v : List Byte) : (s.setPortIn v).req = s.req := rfl
@[simp] theorem State.setPortIn_irqDelay (v : List Byte) : (s.setPortIn v).irqDelay = s.irqDelay := rfl
@[simp] theorem State.setPortIn_halted (v : List Byte) : (s.setPortIn v).halted = s.halted := rfl
@[simp] theorem State.setPortIn_mem (v : List Byte) : (s.setPortIn v).mem = s.mem := rfl
@[simp] theorem State.setPortIn_portIn (v : List Byte) : (s.setPortIn v).portIn = v := rfl
@[simp] theorem State.setPortIn_freeCount (v : List Byte) : (s.setPortIn v).freeCount = s.freeCount := rfl
@[simp] theorem State.setPortIn_env (v : List Byte) : (s.setPortIn v).env = s.env := rfl
@[simp] theorem State.setPortIn_inside (v : List Byte) : (s.setPortIn v).inside = s.inside := rfl
@[simp] theorem State.setPortIn_trace (v : List Byte) : (s.setPortIn v).trace = s.trace := rfl

/-! ### `setFreeCount` -/

@[simp] theorem State.setFreeCount_a (v : Nat) : (s.setFreeCount v).a = s.a := rfl
@[simp] theorem State.setFreeCount_f (v : Nat) : (s.setFreeCount v).f = s.f := rfl
@[simp] theorem State.setFreeCount_b (v : Nat) : (s.setFreeCount v).b = s.b := rfl
@[simp] theorem State.setFreeCount_c (v : Nat) : (s.setFreeCount v).c = s.c := rfl
@[simp] theorem State.setFreeCount_d (v : Nat) : (s.setFreeCount v).d = s.d := rfl
@[simp] theorem State.setFreeCount_e (v : Nat) : (s.setFreeCount v).e = s.e := rfl
@[simp] theorem State.setFreeCount_h (v : Nat) : (s.setFreeCount v).h = s.h := rfl
@[simp] theorem State.setFreeCount_l (v : Nat) : (s.setFreeCount v).l = s.l := rfl
@[simp] theorem State.setFreeCount_af' (v : Nat) : (s.setFreeCount v).af' = s.af' := rfl
@[simp] theorem State.setFreeCount_bc' (v : Nat) : (s.setFreeCount v).bc' = s.bc' := rfl
@[simp] theorem State.setFreeCount_de' (v : Nat) : (s.setFreeCount v).de' = s.de' := rfl
@[simp] theorem State.setFreeCount_hl' (v : Nat) : (s.setFreeCount v).hl' = s.hl' := rfl
@[simp] theorem State.setFreeCount_ix (v : Nat) : (s.setFreeCount v).ix = s.ix := rfl
@[simp] theorem State.setFreeCount_iy (v : Nat) : (s.setFreeCount v).iy = s.iy := rfl
@[simp] theorem State.setFreeCount_sp (v : Nat) : (s.setFreeCount v).sp = s.sp := rfl
@[simp] theorem State.setFreeCount_pc (v : Nat) : (s.setFreeCount v).pc = s.pc := rfl
@[simp] theorem State.setFreeCount_wz (v : Nat) : (s.setFreeCount v).wz = s.wz := rfl
@[simp] theorem State.setFreeCount_i (v : Nat) : (s.setFreeCount v).i = s.i := rfl
@[simp] theorem State.setFreeCount_r (v : Nat) : (s.setFreeCount v).r = s.r := rfl
@[simp] theorem State.setFreeCount_iff1 (v : Nat) : (s.setFreeCount v).iff1 = s.iff1 := rfl
@[simp] theorem State.setFreeCount_iff2 (v : Nat) : (s.setFreeCount v).iff2 = s.iff2 := rfl
@[simp] theorem State.setFreeCount_im (v : Nat) : (s.setFreeCount v).im = s.im := rfl
@[simp] theorem State.setFreeCount_req (v : Nat) : (s.setFreeCount v).req = s.req := rfl
@[simp] theorem State.setFreeCount_irqDelay (v : Nat) : (s.setFreeCount v).irqDelay = s.irqDelay := rfl
@[simp] theorem State.setFreeCount_halted (v : Nat) : (s.setFreeCount v).halted = s.halted := rfl
@[simp] theorem State.setFreeCount_mem (v : Nat) : (s.setFreeCount v).mem = s.mem := rfl
@[simp] theorem State.setFreeCount_portIn (v : Nat) : (s.setFreeCount v).portIn = s.portIn := rfl
@[simp] theorem State.setFreeCount_freeCount (v : Nat) : (s.setFreeCount v).freeCount = v := rfl
@[simp] theorem State.setFreeCount_env (v : Nat) : (s.setFreeCount v).env = s.env := rfl
@[simp] theorem State.setFreeCount_inside (v : Nat) : (s.setFreeCount v).inside = s.inside := rfl
@[simp] theorem State.setFreeCount_trace (v : Nat) : (s.setFreeCount v).trace = s.trace := rfl

/-! ### `setEnv` -/

@[simp] theorem State.setEnv_a (v : List (List EnvAction)) : (s.setEnv v).a = s.a := rfl
@[simp] theorem State.setEnv_f (v : List (List EnvAction)) : (s.setEnv v).f = s.f := rfl
@[simp] theorem State.setEnv_b (v : List (List EnvAction)) : (s.setEnv v).b = s.b := rfl
@[simp] theorem State.setEnv_c (v : List (List EnvAction)) : (s.setEnv v).c = s.c := rfl
@[simp] theorem State.setEnv_d (v : List (List EnvAction)) : (s.setEnv v).d = s.d := rfl
@[simp] theorem State.setEnv_e (v : List (List EnvAction)) : (s.setEnv v).e = s.e := rfl
@[simp] theorem State.setEnv_h (v : List (List EnvAction)) : (s.setEnv v).h = s.h := rfl
@[simp] theorem State.setEnv_l (v : List (List EnvAction)) : (s.setEnv v).l = s.l := rfl
@[simp] theorem State.setEnv_af' (v : List (List EnvAction)) : (s.setEnv v).af' = s.af' := rfl
@[simp] theorem State.setEnv_bc' (v : List (List EnvAction)) : (s.setEnv v).bc' = s.bc' := rfl
@[simp] theorem State.setEnv_de' (v : List (List EnvAction)) : (s.setEnv v).de' = s.de' := rfl
@[simp] theorem State.setEnv_hl' (v : List (List EnvAction)) : (s.setEnv v).hl' = s.hl' := rfl
@[simp] theorem State.setEnv_ix (v : List (List EnvAction)) : (s.setEnv v).ix = s.ix := rfl
@[simp] theorem State.setEnv_iy (v : List (List EnvAction)) : (s.setEnv v).iy = s.iy := rfl
@[simp] theorem State.setEnv_sp (v : List (List EnvAction)) : (s.setEnv v).sp = s.sp := rfl
@[simp] theorem State.setEnv_pc (v : List (List EnvAction)) : (s.setEnv v).pc = s.pc := rfl
@[simp] theorem State.setEnv_wz (v : List (List EnvAction)) : (s.setEnv v).wz = s.wz := rfl
@[simp] theorem State.setEnv_i (v : List (List EnvAction)) : (s.setEnv v).i = s.i := rfl
@[simp] theorem State.setEnv_r (v : List (List EnvAction)) : (s.setEnv v).r = s.r := rfl
@[simp] theorem State.setEnv_iff1 (v : List (List EnvAction)) : (s.setEnv v).iff1 = s.iff1 := rfl
@[simp] theorem State.setEnv_iff2 (v : List (List EnvAction)) : (s.setEnv v).iff2 = s.iff2 := rfl
@[simp] theorem State.setEnv_im (v : List (List EnvAction)) : (s.setEnv v).im = s.im := rfl
@[simp] theorem State.setEnv_req (v : List (List EnvAction)) : (s.setEnv v).req = s.req := rfl
@[simp] theorem State.setEnv_irqDelay (v : List (List EnvAction)) : (s.setEnv v).irqDelay = s.irqDelay := rfl
@[simp] theorem State.setEnv_halted (v : List (List EnvAction)) : (s.setEnv v).halted = s.halted := rfl
@[simp] theorem State.setEnv_mem (v : List (List EnvAction)) : (s.setEnv v).mem = s.mem := rfl
@[simp] theorem State.setEnv_portIn (v : List (List EnvAction)) : (s.setEnv v).portIn = s.portIn := rfl
@[simp] theorem State.setEnv_freeCount (v : List (List EnvAction)) : (s.setEnv v).freeCount = s.freeCount := rfl
@[simp] theorem State.setEnv_env (v : List (List EnvAction)) : (s.setEnv v).env = v := rfl
@[simp] theorem State.setEnv_inside (v : List (List EnvAction)) : (s.setEnv v).inside = s.inside := rfl
@[simp] theorem State.setEnv_trace (v : List (List EnvAction)) : (s.setEnv v).trace = s.trace := rfl

/-! ### `setInside` -/

@[simp] theorem State.setInside_a (v : List (List EnvAction)) : (s.setInside v).a = s.a := rfl
@[simp] theorem State.setInside_f (v : List (List EnvAction)) : (s.setInside v).f = s.f := rfl
@[simp] theorem State.setInside_b (v : List (List EnvAction)) : (s.setInside v).b = s.b := rfl
@[simp] theorem State.setInside_c (v : List (List EnvAction)) : (s.setInside v).c = s.c := rfl
@[simp] theorem State.setInside_d (v : List (List EnvAction)) : (s.setInside v).d = s.d := rfl
@[simp] theorem State.setInside_e (v : List (List EnvAction)) : (s.setInside v).e = s.e := rfl
@[simp] theorem State.setInside_h (v : List (List EnvAction)) : (s.setInside v).h = s.h := rfl
@[simp] theorem State.setInside_l (v : List (List EnvAction)) : (s.setInside v).l = s.l := rfl
@[simp] theorem State.setInside_af' (v : List (List EnvAction)) : (s.setInside v).af' = s.af' := rfl
@[simp] theorem State.setInside_bc' (v : List (List EnvAction)) : (s.setInside v).bc' = s.bc' := rfl
@[simp] theorem State.setInside_de' (v : List (List EnvAction)) : (s.setInside v).de' = s.de' := rfl
@[simp] theorem State.setInside_hl' (v : List (List EnvAction)) : (s.setInside v).hl' = s.hl' := rfl
@[simp] theorem State.setInside_ix (v : List (List EnvAction)) : (s.setInside v).ix = s.ix := rfl
@[simp] theorem State.setInside_iy (v : List (List EnvAction)) : (s.setInside v).iy = s.iy := rfl
@[simp] theorem State.setInside_sp (v : List (List EnvAction)) : (s.setInside v).sp = s.sp := rfl
@[simp] theorem State.setInside_pc (v : List (List EnvAction)) : (s.setInside v).pc = s.pc := rfl
@[simp] theorem State.setInside_wz (v : List (List EnvAction)) : (s.setInside v).wz = s.wz := rfl
@[simp] theorem State.setInside_i (v : List (List EnvAction)) : (s.setInside v).i = s.i := rfl
@[simp] theorem State.setInside_r (v : List (List EnvAction)) : (s.setInside v).r = s.r := rfl
@[simp] theorem State.setInside_iff1 (v : List (List EnvAction)) : (s.setInside v).iff1 = s.iff1 := rfl
@[simp] theorem State.setInside_iff2 (v : List (List EnvAction)) : (s.setInside v).iff2 = s.iff2 := rfl
@[simp] theorem State.setInside_im (v : List (List EnvAction)) : (s.setInside v).im = s.im := rfl
@[simp] theorem State.setInside_req (v : List (List EnvAction)) : (s.setInside v).req = s.req := rfl
@[simp] theorem State.setInside_irqDelay (v : List (List EnvAction)) : (s.setInside v).irqDelay = s.irqDelay := rfl
@[simp] theorem State.setInside_halted (v : List (List EnvAction)) : (s.setInside v).halted = s.halted := rfl
@[simp] theorem State.setInside_mem (v : List (List EnvAction)) : (s.setInside v).mem = s.mem := rfl
@[simp] theorem State.setInside_portIn (v : List (List EnvAction)) : (s.setInside v).portIn = s.portIn := rfl
@[simp] theorem State.setInside_freeCount (v : List (List EnvAction)) : (s.setInside v).freeCount = s.freeCount := rfl
@[simp] theorem State.setInside_env (v : List (List EnvAction)) : (s.setInside v).env = s.env := rfl
@[simp] theorem State.setInside_inside (v : List (List EnvAction)) : (s.setInside v).inside = v := rfl
@[simp] theorem State.setInside_trace (v : List (List EnvAction)) : (s.setInside v).trace = s.trace := rfl

/-! ### `setAf` -/

@[simp] theorem State.setAf_a (v : Word) : (s.setAf v).a = hi8 v := rfl
@[simp] theorem State.setAf_f (v : Word) : (s.setAf v).f = lo8 v := rfl
@[simp] theorem State.setAf_b (v : Word) : (s.setAf v).b = s.b := rfl
@[simp] theorem State.setAf_c (v : Word) : (s.setAf v).c = s.c := rfl
@[simp] theorem State.setAf_d (v : Word) : (s.setAf v).d = s.d := rfl
@[simp] theorem State.setAf_e (v : Word) : (s.setAf v).e = s.e := rfl
@[simp] theorem State.setAf_h (v : Word) : (s.setAf v).h = s.h := rfl
@[simp] theorem State.setAf_l (v : Word) : (s.setAf v).l = s.l := rfl
@[simp] theorem State.setAf_af' (v : Word) : (s.setAf v).af' = s.af' := rfl
@[simp] theorem State.setAf_bc' (v : Word) : (s.setAf v).bc' = s.bc' := rfl
@[simp] theorem State.setAf_de' (v : Word) : (s.setAf v).de' = s.de' := rfl
@[simp] theorem State.setAf_hl' (v : Word) : (s.setAf v).hl' = s.hl' := rfl
@[simp] theorem State.setAf_ix (v : Word) : (s.setAf v).ix = s.ix := rfl
@[simp] theorem State.setAf_iy (v : Word) : (s.setAf v).iy = s.iy := rfl
@[simp] theorem State.setAf_sp (v : Word) : (s.setAf v).sp = s.sp := rfl
@[simp] theorem State.setAf_pc (v : Word) : (s.setAf v).pc = s.pc := rfl
@[simp] theorem State.setAf_wz (v : Word) : (s.setAf v).wz = s.wz := rfl
@[simp] theorem State.setAf_i (v : Word) : (s.setAf v).i = s.i := rfl
@[simp] theorem State.setAf_r (v : Word) : (s.setAf v).r = s.r := rfl
@[simp] theorem State.setAf_iff1 (v : Word) : (s.setAf v).iff1 = s.iff1 := rfl
@[simp] theorem State.setAf_iff2 (v : Word) : (s.setAf v).iff2 = s.iff2 := rfl
@[simp] theorem State.setAf_im (v : Word) : (s.setAf v).im = s.im := rfl
@[simp] theorem State.setAf_req (v : Word) : (s.setAf v).req = s.req := rfl
@[simp] theorem State.setAf_irqDelay (v : Word) : (s.setAf v).irqDelay = s.irqDelay := rfl
@[simp] theorem State.setAf_halted (v : Word) : (s.setAf v).halted = s.halted := rfl
@[simp] theorem State.setAf_mem (v : Word) : (s.setAf v).mem = s.mem := rfl
@[simp] theorem State.setAf_portIn (v : Word) : (s.setAf v).portIn = s.portIn := rfl
@[simp] theorem State.setAf_freeCount (v : Word) : (s.setAf v).freeCount = s.freeCount := rfl
@[simp] theorem State.setAf_env (v : Word) : (s.setAf v).env = s.env := rfl
@[simp] theorem State.setAf_inside (v : Word) : (s.setAf v).inside = s.inside := rfl
@[simp] theorem State.setAf_trace (v : Word) : (s.setAf v).trace = s.trace := rfl

/-! ### `setBc` -/

@[simp] theorem State.setBc_a (v : Word) : (s.setBc v).a = s.a := rfl
@[simp] theorem State.setBc_f (v : Word) : (s.setBc v).f = s.f := rfl
@[simp] theorem State.setBc_b (v : Word) : (s.setBc v).b = hi8 v := rfl
@[simp] theorem State.setBc_c (v : Word) : (s.setBc v).c = lo8 v := rfl
@[simp] theorem State.setBc_d (v : Word) : (s.setBc v).d = s.d := rfl
@[simp] theorem State.setBc_e (v : Word) : (s.setBc v).e = s.e := rfl
@[simp] theorem State.setBc_h (v : Word) : (s.setBc v).h = s.h := rfl
@[simp] theorem State.setBc_l (v : Word) : (s.setBc v).l = s.l := rfl
@[simp] theorem State.setBc_af' (v : Word) : (s.setBc v).af' = s.af' := rfl
@[simp] theorem State.setBc_bc' (v : Word) : (s.setBc v).bc' = s.bc' := rfl
@[simp] theorem State.setBc_de' (v : Word) : (s.setBc v).de' = s.de' := rfl
@[simp] theorem State.setBc_hl' (v : Word) : (s.setBc v).hl' = s.hl' := rfl
@[simp] theorem State.setBc_ix (v : Word) : (s.setBc v).ix = s.ix := rfl
@[simp] theorem State.setBc_iy (v : Word) : (s.setBc v).iy = s.iy := rfl
@[simp] theorem State.setBc_sp (v : Word) : (s.setBc v).sp = s.sp := rfl
@[simp] theorem State.setBc_pc (v : Word) : (s.setBc v).pc = s.pc := rfl
@[simp] theorem State.setBc_wz (v : Word) : (s.setBc v).wz = s.wz := rfl
@[simp] theorem State.setBc_i (v : Word) : (s.setBc v).i = s.i := rfl
@[simp] theorem State.setBc_r (v : Word) : (s.setBc v).r = s.r := rfl
@[simp] theorem State.setBc_iff1 (v : Word) : (s.setBc v).iff1 = s.iff1 := rfl
@[simp] theorem State.setBc_iff2 (v : Word) : (s.setBc v).iff2 = s.iff2 := rfl
@[simp] theorem State.setBc_im (v : Word) : (s.setBc v).im = s.im := rfl
@[simp] theorem State.setBc_req (v : Word) : (s.setBc v).req = s.req := rfl
@[simp] theorem State.setBc_irqDelay (v : Word) : (s.setBc v).irqDelay = s.irqDelay := rfl
@[simp] theorem State.setBc_halted (v : Word) : (s.setBc v).halted = s.halted := rfl
@[simp] theorem State.setBc_mem (v : Word) : (s.setBc v).mem = s.mem := rfl
@[simp] theorem State.setBc_portIn (v : Word) : (s.setBc v).portIn = s.portIn := rfl
@[simp] theorem State.setBc_freeCount (v : Word) : (s.setBc v).freeCount = s.freeCount := rfl
@[simp] theorem State.setBc_env (v : Word) : (s.setBc v).env = s.env := rfl
@[simp] theorem State.setBc_inside (v : Word) : (s.setBc v).inside = s.inside := rfl
@[simp] theorem State.setBc_trace (v : Word) : (s.setBc v).trace = s.trace := rfl

/-! ### `setDe` -/

@[simp] theorem State.setDe_a (v : Word) : (s.setDe v).a = s.a := rfl
@[simp] theorem State.setDe_f (v : Word) : (s.setDe v).f = s.f := rfl
@[simp] theorem State.setDe_b (v : Word) : (s.setDe v).b = s.b := rfl
@[simp] theorem State.setDe_c (v : Word) : (s.setDe v).c = s.c := rfl
@[simp] theorem State.setDe_d (v : Word) : (s.setDe v).d = hi8 v := rfl
@[simp] theorem State.setDe_e (v : Word) : (s.setDe v).e = lo8 v := rfl
@[simp] theorem State.setDe_h (v : Word) : (s.setDe v).h = s.h := rfl
@[simp] theorem State.setDe_l (v : Word) : (s.setDe v).l = s.l := rfl
@[simp] theorem State.setDe_af' (v : Word) : (s.setDe v).af' = s.af' := rfl
@[simp] theorem State.setDe_bc' (v : Word) : (s.setDe v).bc' = s.bc' := rfl
@[simp] theorem State.setDe_de' (v : Word) : (s.setDe v).de' = s.de' := rfl
@[simp] theorem State.setDe_hl' (v : Word) : (s.setDe v).hl' = s.hl' := rfl
@[simp] theorem State.setDe_ix (v : Word) : (s.setDe v).ix = s.ix := rfl
@[simp] theorem State.setDe_iy (v : Word) : (s.setDe v).iy = s.iy := rfl
@[simp] theorem State.setDe_sp (v : Word) : (s.setDe v).sp = s.sp := rfl
@[simp] theorem State.setDe_pc (v : Word) : (s.setDe v).pc = s.pc := rfl
@[simp] theorem State.setDe_wz (v : Word) : (s.setDe v).wz = s.wz := rfl
@[simp] theorem State.setDe_i (v : Word) : (s.setDe v).i = s.i := rfl
@[simp] theorem State.setDe_r (v : Word) : (s.setDe v).r = s.r := rfl
@[simp] theorem State.setDe_iff1 (v : Word) : (s.setDe v).iff1 = s.iff1 := rfl
@[simp] theorem State.setDe_iff2 (v : Word) : (s.setDe v).iff2 = s.iff2 := rfl
@[simp] theorem State.setDe_im (v : Word) : (s.setDe v).im = s.im := rfl
@[simp] theorem State.setDe_req (v : Word) : (s.setDe v).req = s.req := rfl
@[simp] theorem State.setDe_irqDelay (v : Word) : (s.setDe v).irqDelay = s.irqDelay := rfl
@[simp] theorem State.setDe_halted (v : Word) : (s.setDe v).halted = s.halted := rfl
@[simp] theorem State.setDe_mem (v : Word) : (s.setDe v).mem = s.mem := rfl
@[simp] theorem State.setDe_portIn (v : Word) : (s.setDe v).portIn = s.portIn := rfl
@[simp] theorem State.setDe_freeCount (v : Word) : (s.setDe v).freeCount = s.freeCount := rfl
@[simp] theorem State.setDe_env (v : Word) : (s.setDe v).env = s.env := rfl
@[simp] theorem State.setDe_inside (v : Word) : (s.setDe v).inside = s.inside := rfl
@[simp] theorem State.setDe_trace (v : Word) : (s.setDe v).trace = s.trace := rfl

/-! ### `setHl` -/

@[simp] theorem State.setHl_a (v : Word) : (s.setHl v).a = s.a := rfl
@[simp] theorem State.setHl_f (v : Word) : (s.setHl v).f = s.f := rfl
@[simp] theorem State.setHl_b (v : Word) : (s.setHl v).b = s.b := rfl
@[simp] theorem State.setHl_c (v : Word) : (s.setHl v).c = s.c := rfl
@[simp] theorem State.setHl_d (v : Word) : (s.setHl v).d = s.d := rfl
@[simp] theorem State.setHl_e (v : Word) : (s.setHl v).e = s.e := rfl
@[simp] theorem State.setHl_h (v : Word) : (s.setHl v).h = hi8 v := rfl
@[simp] theorem State.setHl_l (v : Word) : (s.setHl v).l = lo8 v := rfl
@[simp] theorem State.setHl_af' (v : Word) : (s.setHl v).af' = s.af' := rfl
@[simp] theorem State.setHl_bc' (v : Word) : (s.setHl v).bc' = s.bc' := rfl
@[simp] theorem State.setHl_de' (v : Word) : (s.setHl v).de' = s.de' := rfl
@[simp] theorem State.setHl_hl' (v : Word) : (s.setHl v).hl' = s.hl' := rfl
@[simp] theorem State.setHl_ix (v : Word) : (s.setHl v).ix = s.ix := rfl
@[simp] theorem State.setHl_iy (v : Word) : (s.setHl v).iy = s.iy := rfl
@[simp] theorem State.setHl_sp (v : Word) : (s.setHl v).sp = s.sp := rfl
@[simp] theorem State.setHl_pc (v : Word) : (s.setHl v).pc = s.pc := rfl
@[simp] theorem State.setHl_wz (v : Word) : (s.setHl v).wz = s.wz := rfl
@[simp] theorem State.setHl_i (v : Word) : (s.setHl v).i = s.i := rfl
@[simp] theorem State.setHl_r (v : Word) : (s.setHl v).r = s.r := rfl
@[simp] theorem State.setHl_iff1 (v : Word) : (s.setHl v).iff1 = s.iff1 := rfl
@[simp] theorem State.setHl_iff2 (v : Word) : (s.setHl v).iff2 = s.iff2 := rfl
@[simp] theorem State.setHl_im (v : Word) : (s.setHl v).im = s.im := rfl
@[simp] theorem State.setHl_req (v : Word) : (s.setHl v).req = s.req := rfl
@[simp] theorem State.setHl_irqDelay (v : Word) : (s.setHl v).irqDelay = s.irqDelay := rfl
@[simp] theorem State.setHl_halted (v : Word) : (s.setHl v).halted = s.halted := rfl
@[simp] theorem State.setHl_mem (v : Word) : (s.setHl v).mem = s.mem := rfl
@[simp] theorem State.setHl_portIn (v : Word) : (s.setHl v).portIn = s.portIn := rfl
@[simp] theorem State.setHl_freeCount (v : Word) : (s.setHl v).freeCount = s.freeCount := rfl
@[simp] theorem State.setHl_env (v : Word) : (s.setHl v).env = s.env := rfl
@[simp] theorem State.setHl_inside (v : Word) : (s.setHl v).inside = s.inside := rfl
@[simp] theorem State.setHl_trace (v : Word) : (s.setHl v).trace = s.trace := rfl

/-! ### `incR`, `emit` -/

@[simp] theorem State.incR_a : s.incR.a = s.a := rfl
@[simp] theorem State.incR_f : s.incR.f = s.f := rfl
@[simp] theorem State.incR_b : s.incR.b = s.b := rfl
@[simp] theorem State.incR_c : s.incR.c = s.c := rfl
@[simp] theorem State.incR_d : s.incR.d = s.d := rfl
@[simp] theorem State.incR_e : s.incR.e = s.e := rfl
@[simp] theorem State.incR_h : s.incR.h = s.h := rfl
@[simp] theorem State.incR_l : s.incR.l = s.l := rfl
@[simp] theorem State.incR_af' : s.incR.af' = s.af' := rfl
@[simp] theorem State.incR_bc' : s.incR.bc' = s.bc' := rfl
@[simp] theorem State.incR_de' : s.incR.de' = s.de' := rfl
@[simp] theorem State.incR_hl' : s.incR.hl' = s.hl' := rfl
@[simp] theorem State.incR_ix : s.incR.ix = s.ix := rfl
@[simp] theorem State.incR_iy : s.incR.iy = s.iy := rfl
@[simp] theorem State.incR_sp : s.incR.sp = s.sp := rfl
@[simp] theorem State.incR_pc : s.incR.pc = s.pc := rfl
@[simp] theorem State.incR_wz : s.incR.wz = s.wz := rfl
@[simp] theorem State.incR_i : s.incR.i = s.i := rfl
@[simp] theorem State.incR_r : s.incR.r = (s.r &&& 0x80#8) ||| ((s.r + 1#8) &&& 0x7F#8) := rfl
@[simp] theorem State.incR_iff1 : s.incR.iff1 = s.iff1 := rfl
@[simp] theorem State.incR_iff2 : s.incR.iff2 = s.iff2 := rfl
@[simp] theorem State.incR_im : s.incR.im = s.im := rfl
@[simp] theorem State.incR_req : s.incR.req = s.req := rfl
@[simp] theorem State.incR_irqDelay : s.incR.irqDelay = s.irqDelay := rfl
@[simp] theorem State.incR_halted : s.incR.halted = s.halted := rfl
@[simp] theorem State.incR_mem : s.incR.mem = s.mem := rfl
@[simp] theorem State.incR_portIn : s.incR.portIn = s.portIn := rfl
@[simp] theorem State.incR_freeCount : s.incR.freeCount = s.freeCount := rfl
@[simp] theorem State.incR_env : s.incR.env = s.env := rfl
@[simp] theorem State.incR_inside : s.incR.inside = s.inside := rfl
@[simp] theorem State.incR_trace : s.incR.trace = s.trace := rfl
@[simp] theorem State.emit_a (o : BusOp) : (s.emit o).a = s.a := rfl
@[simp] theorem State.emit_f (o : BusOp) : (s.emit o).f = s.f := rfl
@[simp] theorem State.emit_b (o : BusOp) : (s.emit o).b = s.b := rfl
@[simp] theorem State.emit_c (o : BusOp) : (s.emit o).c = s.c := rfl
@[simp] theorem State.emit_d (o : BusOp) : (s.emit o).d = s.d := rfl
@[simp] theorem State.emit_e (o : BusOp) : (s.emit o).e = s.e := rfl
@[simp] theorem State.emit_h (o : BusOp) : (s.emit o).h = s.h := rfl
@[simp] theorem State.emit_l (o : BusOp) : (s.emit o).l = s.l := rfl
@[simp] theorem State.emit_af' (o : BusOp) : (s.emit o).af' = s.af' := rfl
@[simp] theorem State.emit_bc' (o : BusOp) : (s.emit o).bc' = s.bc' := rfl
@[simp] theorem State.emit_de' (o : BusOp) : (s.emit o).de' = s.de' := rfl
@[simp] theorem State.emit_hl' (o : BusOp) : (s.emit o).hl' = s.hl' := rfl
@[simp] theorem State.emit_ix (o : BusOp) : (s.emit o).ix = s.ix := rfl
@[simp] theorem State.emit_iy (o : BusOp) : (s.emit o).iy = s.iy := rfl
@[simp] theorem State.emit_sp (o : BusOp) : (s.emit o).sp = s.sp := rfl
@[simp] theorem State.emit_pc (o : BusOp) : (s.emit o).pc = s.pc := rfl
@[simp] theorem State.emit_wz (o : BusOp) : (s.emit o).wz = s.wz := rfl
@[simp] theorem State.emit_i (o : BusOp) : (s.emit o).i = s.i := rfl
@[simp] theorem State.emit_r (o : BusOp) : (s.emit o).r = s.r := rfl
@[simp] theorem State.emit_iff1 (o : BusOp) : (s.emit o).iff1 = s.iff1 := rfl
@[simp] theorem State.emit_iff2 (o : BusOp) : (s.emit o).iff2 = s.iff2 := rfl
@[simp] theorem State.emit_im (o : BusOp) : (s.emit o).im = s.im := rfl
@[simp] theorem State.emit_req (o : BusOp) : (s.emit o).req = s.req := rfl
@[simp] theorem State.emit_irqDelay (o : BusOp) : (s.emit o).irqDelay = s.irqDelay := rfl
@[simp] theorem State.emit_halted (o : BusOp) : (s.emit o).halted = s.halted := rfl
@[simp] theorem State.emit_mem (o : BusOp) : (s.emit o).mem = s.mem := rfl
@[simp] theorem State.emit_portIn (o : BusOp) : (s.emit o).portIn = s.portIn := rfl
@[simp] theorem State.emit_freeCount (o : BusOp) : (s.emit o).freeCount = s.freeCount := rfl
@[simp] theorem State.emit_env (o : BusOp) : (s.emit o).env = s.env := rfl
@[simp] theorem State.emit_inside (o : BusOp) : (s.emit o).inside = s.inside := rfl
@[simp] theorem State.emit_trace (o : BusOp) : (s.emit o).trace = o :: s.trace := rfl

/-! ### `act`, `acts` -/

/-- An action of the environment reaches memory, the request bits and the record. -/
theorem State.act_eq (x : EnvAction) :
    s.act x = { s with mem := (s.act x).mem, req := (s.act x).req, trace := (s.act x).trace } := by
  cases x <;> rfl

@[simp] theorem State.acts_nil : s.acts [] = s := rfl

@[simp] theorem State.acts_cons (x : EnvAction) (l : List EnvAction) : s.acts (x :: l) = (s.act x).acts l := rfl

theorem State.acts_append (l l' : List EnvAction) : s.acts (l ++ l') = (s.acts l).acts l' :=
  List.foldl_append

/-- So do several. -/
theorem State.acts_eq (l : List EnvAction) :
    ∀ s : State,
      s.acts l = { s with mem := (s.acts l).mem, req := (s.acts l).req, trace := (s.acts l).trace } := by
  induction l with
  | nil => exact fun _ => rfl
  | cons x l ih =>
    intro s
    rw [State.acts_cons, ih, State.act_eq s x]

@[simp] theorem State.acts_a (l : List EnvAction) : (s.acts l).a = s.a := by
  rw [State.acts_eq l s]
@[simp] theorem State.acts_f (l : List EnvAction) : (s.acts l).f = s.f := by
  rw [State.acts_eq l s]
@[simp] theorem State.acts_b (l : List EnvAction) : (s.acts l).b = s.b := by
  rw [State.acts_eq l s]
@[simp] theorem State.acts_c (l : List EnvAction) : (s.acts l).c = s.c := by
  rw [State.acts_eq l s]
@[simp] theorem State.acts_d (l : List EnvAction) : (s.acts l).d = s.d := by
  rw [State.acts_eq l s]
@[simp] theorem State.acts_e (l : List EnvAction) : (s.acts l).e = s.e := by
  rw [State.acts_eq l s]
@[simp] theorem State.acts_h (l : List EnvAction) : (s.acts l).h = s.h := by
  rw [State.acts_eq l s]
@[simp] theorem State.acts_l (l : List EnvAction) : (s.acts l).l = s.l := by
  rw [State.acts_eq l s]
@[simp] theorem State.acts_af' (l : List EnvAction) : (s.acts l).af' = s.af' := by
  rw [State.acts_eq l s]
@[simp] theorem State.acts_bc' (l : List EnvAction) : (s.acts l).bc' = s.bc' := by
  rw [State.acts_eq l s]
@[simp] theorem State.acts_de' (l : List EnvAction) : (s.acts l).de' = s.de' := by
  rw [State.acts_eq l s]
@[simp] theorem State.acts_hl' (l : List EnvAction) : (s.acts l).hl' = s.hl' := by
  rw [State.acts_eq l s]
@[simp] theorem State.acts_ix (l : List EnvAction) : (s.acts l).ix = s.ix := by
  rw [State.acts_eq l s]
@[simp] theorem State.acts_iy (l : List EnvAction) : (s.acts l).iy = s.iy := by
  rw [State.acts_eq l s]
@[simp] theorem State.acts_sp (l : List EnvAction) : (s.acts l).sp = s.sp := by
  rw [State.acts_eq l s]
@[simp] theorem State.acts_pc (l : List EnvAction) : (s.acts l).pc = s.pc := by
  rw [State.acts_eq l s]
@[simp] theorem State.acts_wz (l : List EnvAction) : (s.acts l).wz = s.wz := by
  rw [State.acts_eq l s]
@[simp] theorem State.acts_i (l : List EnvAction) : (s.acts l).i = s.i := by
  rw [State.acts_eq l s]
@[simp] theorem State.acts_r (l : List EnvAction) : (s.acts l).r = s.r := by
  rw [State.acts_eq l s]
@[simp] theorem State.acts_iff1 (l : List EnvAction) : (s.acts l).iff1 = s.iff1 := by
  rw [State.acts_eq l s]
@[simp] theorem State.acts_iff2 (l : List EnvAction) : (s.acts l).iff2 = s.iff2 := by
  rw [State.acts_eq l s]
@[simp] theorem State.acts_im (l : List EnvAction) : (s.acts l).im = s.im := by
  rw [State.acts_eq l s]
@[simp] theorem State.acts_irqDelay (l : List EnvAction) : (s.acts l).irqDelay = s.irqDelay := by
  rw [State.acts_eq l s]
@[simp] theorem State.acts_halted (l : List EnvAction) : (s.acts l).halted = s.halted := by
  rw [State.acts_eq l s]
@[simp] theorem State.acts_portIn (l : List EnvAction) : (s.acts l).portIn = s.portIn := by
  rw [State.acts_eq l s]
@[simp] theorem State.acts_freeCount (l : List EnvAction) : (s.acts l).freeCount = s.freeCount := by
  rw [State.acts_eq l s]
@[simp] theorem State.acts_env (l : List EnvAction) : (s.acts l).env = s.env := by
  rw [State.acts_eq l s]
@[simp] theorem State.acts_inside (l : List EnvAction) : (s.acts l).inside = s.inside := by
  rw [State.acts_eq l s]

/-! ### `arrive`, `react` -/

/-- Nothing arrives when the environment plans nothing. -/
theorem State.arrive_nil (h : s.env = []) : s.arrive = s := by
  unfold State.arrive
  rw [h]

theorem State.arrive_cons {l : List EnvAction} {rest : List (List EnvAction)} (h : s.env = l :: rest) :
    s.arrive = (s.setEnv rest).acts l := by
  unfold State.arrive
  rw [h]

/-- Nothing happens inside an operation of a quiet state. -/
theorem State.react_quiet (h : s.inside = []) : s.react = s := by
  unfold State.react
  rw [h]

theorem State.react_cons {l : List EnvAction} {rest : List (List EnvAction)} (h : s.inside = l :: rest) :
    s.react = (s.setInside rest).acts l := by
  unfold State.react
  rw [h]

@[simp] theorem State.arrive_a : s.arrive.a = s.a := by
  unfold State.arrive
  split <;> simp
@[simp] theorem State.arrive_f : s.arrive.f = s.f := by
  unfold State.arrive
  split <;> simp
@[simp] theorem State.arrive_b : s.arrive.b = s.b := by
  unfold State.arrive
  split <;> simp
@[simp] theorem State.arrive_c : s.arrive.c = s.c := by
  unfold State.arrive
  split <;> simp
@[simp] theorem State.arrive_d : s.arrive.d = s.d := by
  unfold State.arrive
  split <;> simp
@[simp] theorem State.arrive_e : s.arrive.e = s.e := by
  unfold State.arrive
  split <;> simp
@[simp] theorem State.arrive_h : s.arrive.h = s.h := by
  unfold State.arrive
  split <;> simp
@[simp] theorem State.arrive_l : s.arrive.l = s.l := by
  unfold State.arrive
  split <;> simp
@[simp] theorem State.arrive_af' : s.arrive.af' = s.af' := by
  unfold State.arrive
  split <;> simp
@[simp] theorem State.arrive_bc' : s.arrive.bc' = s.bc' := by
  unfold State.arrive
  split <;> simp
@[simp] theorem State.arrive_de' : s.arrive.de' = s.de' := by
  unfold State.arrive
  split <;> simp
@[simp] theorem State.arrive_hl' : s.arrive.hl' = s.hl' := by
  unfold State.arrive
  split <;> simp
@[simp] theorem State.arrive_ix : s.arrive.ix = s.ix := by
  unfold State.arrive
  split <;> simp
@[simp] theorem State.arrive_iy : s.arrive.iy = s.iy := by
  unfold State.arrive
  split <;> simp
@[simp] theorem State.arrive_sp : s.arrive.sp = s.sp := by
  unfold State.arrive
  split <;> simp
@[simp] theorem State.arrive_pc : s.arrive.pc = s.pc := by
  unfold State.arrive
  split <;> simp
@[simp] theorem State.arrive_wz : s.arrive.wz = s.wz := by
  unfold State.arrive
  split <;> simp
@[simp] theorem State.arrive_i : s.arrive.i = s.i := by
  unfold State.arrive
  split <;> simp
@[simp] theorem State.arrive_r : s.arrive.r = s.r := by
  unfold State.arrive
  split <;> simp
@[simp] theorem State.arrive_iff1 : s.arrive.iff1 = s.iff1 := by
  unfold State.arrive
  split <;> simp
@[simp] theorem State.arrive_iff2 : s.arrive.iff2 = s.iff2 := by
  unfold State.arrive
  split <;> simp
@[simp] theorem State.arrive_im : s.arrive.im = s.im := by
  unfold State.arrive
  split <;> simp
@[simp] theorem State.arrive_irqDelay : s.arrive.irqDelay = s.irqDelay := by
  unfold State.arrive
  split <;> simp
@[simp] theorem State.arrive_halted : s.arrive.halted = s.halted := by
  unfold State.arrive
  split <;> simp
@[simp] theorem State.arrive_portIn : s.arrive.portIn = s.portIn := by
  unfold State.arrive
  split <;> simp
@[simp] theorem State.arrive_freeCount : s.arrive.freeCount = s.freeCount := by
  unfold State.arrive
  split <;> simp
@[simp] theorem State.arrive_inside : s.arrive.inside = s.inside := by
  unfold State.arrive
  split <;> simp
@[simp] theorem State.react_a : s.react.a = s.a := by
  unfold State.react
  split <;> simp
@[simp] theorem State.react_f : s.react.f = s.f := by
  unfold State.react
  split <;> simp
@[simp] theorem State.react_b : s.react.b = s.b := by
  unfold State.react
  split <;> simp
@[simp] theorem State.react_c : s.react.c = s.c := by
  unfold State.react
  split <;> simp
@[simp] theorem State.react_d : s.react.d = s.d := by
  unfold State.react
  split <;> simp
@[simp] theorem State.react_e : s.react.e = s.e := by
  unfold State.react
  split <;> simp
@[simp] theorem State.react_h : s.react.h = s.h := by
  unfold State.react
  split <;> simp
@[simp] theorem State.react_l : s.react.l = s.l := by
  unfold State.react
  split <;> simp
@[simp] theorem State.react_af' : s.react.af' = s.af' := by
  unfold State.react
  split <;> simp
@[simp] theorem State.react_bc' : s.react.bc' = s.bc' := by
  unfold State.react
  split <;> simp
@[simp] theorem State.react_de' : s.react.de' = s.de' := by
  unfold State.react
  split <;> simp
@[simp] theorem State.react_hl' : s.react.hl' = s.hl' := by
  unfold State.react
  split <;> simp
@[simp] theorem State.react_ix : s.react.ix = s.ix := by
  unfold State.react
  split <;> simp
@[simp] theorem State.react_iy : s.react.iy = s.iy := by
  unfold State.react
  split <;> simp
@[simp] theorem State.react_sp : s.react.sp = s.sp := by
  unfold State.react
  split <;> simp
@[simp] theorem State.react_pc : s.react.pc = s.pc := by
  unfold State.react
  split <;> simp
@[simp] theorem State.react_wz : s.react.wz = s.wz := by
  unfold State.react
  split <;> simp
@[simp] theorem State.react_i : s.react.i = s.i := by
  unfold State.react
  split <;> simp
@[simp] theorem State.react_r : s.react.r = s.r := by
  unfold State.react
  split <;> simp
@[simp] theorem State.react_iff1 : s.react.iff1 = s.iff1 := by
  unfold State.react
  split <;> simp
@[simp] theorem State.react_iff2 : s.react.iff2 = s.iff2 := by
  unfold State.react
  split <;> simp
@[simp] theorem State.react_im : s.react.im = s.im := by
  unfold State.react
  split <;> simp
@[simp] theorem State.react_irqDelay : s.react.irqDelay = s.irqDelay := by
  unfold State.react
  split <;> simp
@[simp] theorem State.react_halted : s.react.halted = s.halted := by
  unfold State.react
  split <;> simp
@[simp] theorem State.react_portIn : s.react.portIn = s.portIn := by
  unfold State.react
  split <;> simp
@[simp] theorem State.react_freeCount : s.react.freeCount = s.freeCount := by
  unfold State.react
  split <;> simp
@[simp] theorem State.react_env : s.react.env = s.env := by
  unfold State.react
  split <;> simp

/-! ### `tick` -/

@[simp] theorem State.tick_a (n : Nat) : (s.tick n).a = s.a := by
  simp [State.tick]
@[simp] theorem State.tick_f (n : Nat) : (s.tick n).f = s.f := by
  simp [State.tick]
@[simp] theorem State.tick_b (n : Nat) : (s.tick n).b = s.b := by
  simp [State.tick]
@[simp] theorem State.tick_c (n : Nat) : (s.tick n).c = s.c := by
  simp [State.tick]
@[simp] theorem State.tick_d (n : Nat) : (s.tick n).d = s.d := by
  simp [State.tick]
@[simp] theorem State.tick_e (n : Nat) : (s.tick n).e = s.e := by
  simp [State.tick]
@[simp] theorem State.tick_h (n : Nat) : (s.tick n).h = s.h := by
  simp [State.tick]
@[simp] theorem State.tick_l (n : Nat) : (s.tick n).l = s.l := by
  simp [State.tick]
@[simp] theorem State.tick_af' (n : Nat) : (s.tick n).af' = s.af' := by
  simp [State.tick]
@[simp] theorem State.tick_bc' (n : Nat) : (s.tick n).bc' = s.bc' := by
  simp [State.tick]
@[simp] theorem State.tick_de' (n : Nat) : (s.tick n).de' = s.de' := by
  simp [State.tick]
@[simp] theorem State.tick_hl' (n : Nat) : (s.tick n).hl' = s.hl' := by
  simp [State.tick]
@[simp] theorem State.tick_ix (n : Nat) : (s.tick n).ix = s.ix := by
  simp [State.tick]
@[simp] theorem State.tick_iy (n : Nat) : (s.tick n).iy = s.iy := by
  simp [State.tick]
@[simp] theorem State.tick_sp (n : Nat) : (s.tick n).sp = s.sp := by
  simp [State.tick]
@[simp] theorem State.tick_pc (n : Nat) : (s.tick n).pc = s.pc := by
  simp [State.tick]
@[simp] theorem State.tick_wz (n : Nat) : (s.tick n).wz = s.wz := by
  simp [State.tick]
@[simp] theorem State.tick_i (n : Nat) : (s.tick n).i = s.i := by
  simp [State.tick]
@[simp] theorem State.tick_r (n : Nat) : (s.tick n).r = s.r := by
  simp [State.tick]
@[simp] theorem State.tick_iff1 (n : Nat) : (s.tick n).iff1 = s.iff1 := by
  simp [State.tick]
@[simp] theorem State.tick_iff2 (n : Nat) : (s.tick n).iff2 = s.iff2 := by
  simp [State.tick]
@[simp] theorem State.tick_im (n : Nat) : (s.tick n).im = s.im := by
  simp [State.tick]
@[simp] theorem State.tick_irqDelay (n : Nat) : (s.tick n).irqDelay = s.irqDelay := by
  simp [State.tick]
@[simp] theorem State.tick_halted (n : Nat) : (s.tick n).halted = s.halted := by
  simp [State.tick]
@[simp] theorem State.tick_portIn (n : Nat) : (s.tick n).portIn = s.portIn := by
  simp [State.tick]
@[simp] theorem State.tick_freeCount (n : Nat) : (s.tick n).freeCount = s.freeCount := by
  simp [State.tick]
@[simp] theorem State.tick_env (n : Nat) : (s.tick n).env = s.env := by
  simp [State.tick]

/-- In a quiet environment. -/
theorem State.tick_quiet (n : Nat) (h : s.inside = []) : s.tick n = s.emit (.tick n) :=
  State.react_quiet _ h

/-! ### `busRead` -/

@[simp] theorem State.busRead_a (addr : Word) : (s.busRead addr).2.a = s.a := by
  simp [State.busRead]
@[simp] theorem State.busRead_f (addr : Word) : (s.busRead addr).2.f = s.f := by
  simp [State.busRead]
@[simp] theorem State.busRead_b (addr : Word) : (s.busRead addr).2.b = s.b := by
  simp [State.busRead]
@[simp] theorem State.busRead_c (addr : Word) : (s.busRead addr).2.c = s.c := by
  simp [State.busRead]
@[simp] theorem State.busRead_d (addr : Word) : (s.busRead addr).2.d = s.d := by
  simp [State.busRead]
@[simp] theorem State.busRead_e (addr : Word) : (s.busRead addr).2.e = s.e := by
  simp [State.busRead]
@[simp] theorem State.busRead_h (addr : Word) : (s.busRead addr).2.h = s.h := by
  simp [State.busRead]
@[simp] theorem State.busRead_l (addr : Word) : (s.busRead addr).2.l = s.l := by
  simp [State.busRead]
@[simp] theorem State.busRead_af' (addr : Word) : (s.busRead addr).2.af' = s.af' := by
  simp [State.busRead]
@[simp] theorem State.busRead_bc' (addr : Word) : (s.busRead addr).2.bc' = s.bc' := by
  simp [State.busRead]
@[simp] theorem State.busRead_de' (addr : Word) : (s.busRead addr).2.de' = s.de' := by
  simp [State.busRead]
@[simp] theorem State.busRead_hl' (addr : Word) : (s.busRead addr).2.hl' = s.hl' := by
  simp [State.busRead]
@[simp] theorem State.busRead_ix (addr : Word) : (s.busRead addr).2.ix = s.ix := by
  simp [State.busRead]
@[simp] theorem State.busRead_iy (addr : Word) : (s.busRead addr).2.iy = s.iy := by
  simp [State.busRead]
@[simp] theorem State.busRead_sp (addr : Word) : (s.busRead addr).2.sp = s.sp := by
  simp [State.busRead]
@[simp] theorem State.busRead_pc (addr : Word) : (s.busRead addr).2.pc = s.pc := by
  simp [State.busRead]
@[simp] theorem State.busRead_wz (addr : Word) : (s.busRead addr).2.wz = s.wz := by
  simp [State.busRead]
@[simp] theorem State.busRead_i (addr : Word) : (s.busRead addr).2.i = s.i := by
  simp [State.busRead]
@[simp] theorem State.busRead_r (addr : Word) : (s.busRead addr).2.r = s.r := by
  simp [State.busRead]
@[simp] theorem State.busRead_iff1 (addr : Word) : (s.busRead addr).2.iff1 = s.iff1 := by
  simp [State.busRead]
@[simp] theorem State.busRead_iff2 (addr : Word) : (s.busRead addr).2.iff2 = s.iff2 := by
  simp [State.busRead]
@[simp] theorem State.busRead_im (addr : Word) : (s.busRead addr).2.im = s.im := by
  simp [State.busRead]
@[simp] theorem State.busRead_irqDelay (addr : Word) : (s.busRead addr).2.irqDelay = s.irqDelay := by
  simp [State.busRead]
@[simp] theorem State.busRead_halted (addr : Word) : (s.busRead addr).2.halted = s.halted := by
  simp [State.busRead]
@[simp] theorem State.busRead_portIn (addr : Word) : (s.busRead addr).2.portIn = s.portIn := by
  simp [State.busRead]
@[simp] theorem State.busRead_freeCount (addr : Word) : (s.busRead addr).2.freeCount = s.freeCount := by
  simp [State.busRead]
@[simp] theorem State.busRead_env (addr : Word) : (s.busRead addr).2.env = s.env := by
  simp [State.busRead]

/-- In a quiet environment. -/
theorem State.busRead_quiet (addr : Word) (h : s.inside = []) :
    s.busRead addr = (s.peek addr, s.emit (.memRead addr (s.peek addr))) := by
  rw [State.busRead, State.react_quiet s h]

/-! ### `memRead` -/

@[simp] theorem State.memRead_a (addr : Word) : (s.memRead addr).2.a = s.a := by
  simp [State.memRead]
@[simp] theorem State.memRead_f (addr : Word) : (s.memRead addr).2.f = s.f := by
  simp [State.memRead]
@[simp] theorem State.memRead_b (addr : Word) : (s.memRead addr).2.b = s.b := by
  simp [State.memRead]
@[simp] theorem State.memRead_c (addr : Word) : (s.memRead addr).2.c = s.c := by
  simp [State.memRead]
@[simp] theorem State.memRead_d (addr : Word) : (s.memRead addr).2.d = s.d := by
  simp [State.memRead]
@[simp] theorem State.memRead_e (addr : Word) : (s.memRead addr).2.e = s.e := by
  simp [State.memRead]
@[simp] theorem State.memRead_h (addr : Word) : (s.memRead addr).2.h = s.h := by
  simp [State.memRead]
@[simp] theorem State.memRead_l (addr : Word) : (s.memRead addr).2.l = s.l := by
  simp [State.memRead]
@[simp] theorem State.memRead_af' (addr : Word) : (s.memRead addr).2.af' = s.af' := by
  simp [State.memRead]
@[simp] theorem State.memRead_bc' (addr : Word) : (s.memRead addr).2.bc' = s.bc' := by
  simp [State.memRead]
@[simp] theorem State.memRead_de' (addr : Word) : (s.memRead addr).2.de' = s.de' := by
  simp [State.memRead]
@[simp] theorem State.memRead_hl' (addr : Word) : (s.memRead addr).2.hl' = s.hl' := by
  simp [State.memRead]
@[simp] theorem State.memRead_ix (addr : Word) : (s.memRead addr).2.ix = s.ix := by
  simp [State.memRead]
@[simp] theorem State.memRead_iy (addr : Word) : (s.memRead addr).2.iy = s.iy := by
  simp [State.memRead]
@[simp] theorem State.memRead_sp (addr : Word) : (s.memRead addr).2.sp = s.sp := by
  simp [State.memRead]
@[simp] theorem State.memRead_pc (addr : Word) : (s.memRead addr).2.pc = s.pc := by
  simp [State.memRead]
@[simp] theorem State.memRead_wz (addr : Word) : (s.memRead addr).2.wz = s.wz := by
  simp [State.memRead]
@[simp] theorem State.memRead_i (addr : Word) : (s.memRead addr).2.i = s.i := by
  simp [State.memRead]
@[simp] theorem State.memRead_r (addr : Word) : (s.memRead addr).2.r = s.r := by
  simp [State.memRead]
@[simp] theorem State.memRead_iff1 (addr : Word) : (s.memRead addr).2.iff1 = s.iff1 := by
  simp [State.memRead]
@[simp] theorem State.memRead_iff2 (addr : Word) : (s.memRead addr).2.iff2 = s.iff2 := by
  simp [State.memRead]
@[simp] theorem State.memRead_im (addr : Word) : (s.memRead addr).2.im = s.im := by
  simp [State.memRead]
@[simp] theorem State.memRead_irqDelay (addr : Word) : (s.memRead addr).2.irqDelay = s.irqDelay := by
  simp [State.memRead]
@[simp] theorem State.memRead_halted (addr : Word) : (s.memRead addr).2.halted = s.halted := by
  simp [State.memRead]
@[simp] theorem State.memRead_portIn (addr : Word) : (s.memRead addr).2.portIn = s.portIn := by
  simp [State.memRead]
@[simp] theorem State.memRead_freeCount (addr : Word) : (s.memRead addr).2.freeCount = s.freeCount := by
  simp [State.memRead]
@[simp] theorem State.memRead_env (addr : Word) : (s.memRead addr).2.env = s.env := by
  simp [State.memRead]

/-- In a quiet environment. -/
theorem State.memRead_quiet (addr : Word) (h : s.inside = []) :
    s.memRead addr = (s.peek addr, (s.emit (.memRead addr (s.peek addr))).emit (.tick tMem)) := by
  rw [State.memRead, State.busRead_quiet s addr h]
  exact congrArg (Prod.mk _) (State.tick_quiet _ _ h)

/-! ### `memWrite` -/

@[simp] theorem State.memWrite_a (addr : Word) (v : Byte) : (s.memWrite addr v).a = s.a := by
  simp [State.memWrite]
@[simp] theorem State.memWrite_f (addr : Word) (v : Byte) : (s.memWrite addr v).f = s.f := by
  simp [State.memWrite]
@[simp] theorem State.memWrite_b (addr : Word) (v : Byte) : (s.memWrite addr v).b = s.b := by
  simp [State.memWrite]
@[simp] theorem State.memWrite_c (addr : Word) (v : Byte) : (s.memWrite addr v).c = s.c := by
  simp [State.memWrite]
@[simp] theorem State.memWrite_d (addr : Word) (v : Byte) : (s.memWrite addr v).d = s.d := by
  simp [State.memWrite]
@[simp] theorem State.memWrite_e (addr : Word) (v : Byte) : (s.memWrite addr v).e = s.e := by
  simp [State.memWrite]
@[simp] theorem State.memWrite_h (addr : Word) (v : Byte) : (s.memWrite addr v).h = s.h := by
  simp [State.memWrite]
@[simp] theorem State.memWrite_l (addr : Word) (v : Byte) : (s.memWrite addr v).l = s.l := by
  simp [State.memWrite]
@[simp] theorem State.memWrite_af' (addr : Word) (v : Byte) : (s.memWrite addr v).af' = s.af' := by
  simp [State.memWrite]
@[simp] theorem State.memWrite_bc' (addr : Word) (v : Byte) : (s.memWrite addr v).bc' = s.bc' := by
  simp [State.memWrite]
@[simp] theorem State.memWrite_de' (addr : Word) (v : Byte) : (s.memWrite addr v).de' = s.de' := by
  simp [State.memWrite]
@[simp] theorem State.memWrite_hl' (addr : Word) (v : Byte) : (s.memWrite addr v).hl' = s.hl' := by
  simp [State.memWrite]
@[simp] theorem State.memWrite_ix (addr : Word) (v : Byte) : (s.memWrite addr v).ix = s.ix := by
  simp [State.memWrite]
@[simp] theorem State.memWrite_iy (addr : Word) (v : Byte) : (s.memWrite addr v).iy = s.iy := by
  simp [State.memWrite]
@[simp] theorem State.memWrite_sp (addr : Word) (v : Byte) : (s.memWrite addr v).sp = s.sp := by
  simp [State.memWrite]
@[simp] theorem State.memWrite_pc (addr : Word) (v : Byte) : (s.memWrite addr v).pc = s.pc := by
  simp [State.memWrite]
@[simp] theorem State.memWrite_wz (addr : Word) (v : Byte) : (s.memWrite addr v).wz = s.wz := by
  simp [State.memWrite]
@[simp] theorem State.memWrite_i (addr : Word) (v : Byte) : (s.memWrite addr v).i = s.i := by
  simp [State.memWrite]
@[simp] theorem State.memWrite_r (addr : Word) (v : Byte) : (s.memWrite addr v).r = s.r := by
  simp [State.memWrite]
@[simp] theorem State.memWrite_iff1 (addr : Word) (v : Byte) : (s.memWrite addr v).iff1 = s.iff1 := by
  simp [State.memWrite]
@[simp] theorem State.memWrite_iff2 (addr : Word) (v : Byte) : (s.memWrite addr v).iff2 = s.iff2 := by
  simp [State.memWrite]
@[simp] theorem State.memWrite_im (addr : Word) (v : Byte) : (s.memWrite addr v).im = s.im := by
  simp [State.memWrite]
@[simp] theorem State.memWrite_irqDelay (addr : Word) (v : Byte) : (s.memWrite addr v).irqDelay = s.irqDelay := by
  simp [State.memWrite]
@[simp] theorem State.memWrite_halted (addr : Word) (v : Byte) : (s.memWrite addr v).halted = s.halted := by
  simp [State.memWrite]
@[simp] theorem State.memWrite_portIn (addr : Word) (v : Byte) : (s.memWrite addr v).portIn = s.portIn := by
  simp [State.memWrite]
@[simp] theorem State.memWrite_freeCount (addr : Word) (v : Byte) : (s.memWrite addr v).freeCount = s.freeCount := by
  simp [State.memWrite]
@[simp] theorem State.memWrite_env (addr : Word) (v : Byte) : (s.memWrite addr v).env = s.env := by
  simp [State.memWrite]

/-- In a quiet environment. -/
theorem State.memWrite_quiet (addr : Word) (v : Byte) (h : s.inside = []) :
    s.memWrite addr v =
      ((s.setMem (s.mem.write addr.toNat v)).emit (.memWrite addr v)).emit (.tick tMem) := by
  rw [State.memWrite, State.react_quiet s h]
  exact State.tick_quiet _ _ h

/-! ### `memRead16` -/

@[simp] theorem State.memRead16_a (addr : Word) : (s.memRead16 addr).2.a = s.a := by
  simp [State.memRead16]
@[simp] theorem State.memRead16_f (addr : Word) : (s.memRead16 addr).2.f = s.f := by
  simp [State.memRead16]
@[simp] theorem State.memRead16_b (addr : Word) : (s.memRead16 addr).2.b = s.b := by
  simp [State.memRead16]
@[simp] theorem State.memRead16_c (addr : Word) : (s.memRead16 addr).2.c = s.c := by
  simp [State.memRead16]
@[simp] theorem State.memRead16_d (addr : Word) : (s.memRead16 addr).2.d = s.d := by
  simp [State.memRead16]
@[simp] theorem State.memRead16_e (addr : Word) : (s.memRead16 addr).2.e = s.e := by
  simp [State.memRead16]
@[simp] theorem State.memRead16_h (addr : Word) : (s.memRead16 addr).2.h = s.h := by
  simp [State.memRead16]
@[simp] theorem State.memRead16_l (addr : Word) : (s.memRead16 addr).2.l = s.l := by
  simp [State.memRead16]
@[simp] theorem State.memRead16_af' (addr : Word) : (s.memRead16 addr).2.af' = s.af' := by
  simp [State.memRead16]
@[simp] theorem State.memRead16_bc' (addr : Word) : (s.memRead16 addr).2.bc' = s.bc' := by
  simp [State.memRead16]
@[simp] theorem State.memRead16_de' (addr : Word) : (s.memRead16 addr).2.de' = s.de' := by
  simp [State.memRead16]
@[simp] theorem State.memRead16_hl' (addr : Word) : (s.memRead16 addr).2.hl' = s.hl' := by
  simp [State.memRead16]
@[simp] theorem State.memRead16_ix (addr : Word) : (s.memRead16 addr).2.ix = s.ix := by
  simp [State.memRead16]
@[simp] theorem State.memRead16_iy (addr : Word) : (s.memRead16 addr).2.iy = s.iy := by
  simp [State.memRead16]
@[simp] theorem State.memRead16_sp (addr : Word) : (s.memRead16 addr).2.sp = s.sp := by
  simp [State.memRead16]
@[simp] theorem State.memRead16_pc (addr : Word) : (s.memRead16 addr).2.pc = s.pc := by
  simp [State.memRead16]
@[simp] theorem State.memRead16_wz (addr : Word) : (s.memRead16 addr).2.wz = s.wz := by
  simp [State.memRead16]
@[simp] theorem State.memRead16_i (addr : Word) : (s.memRead16 addr).2.i = s.i := by
  simp [State.memRead16]
@[simp] theorem State.memRead16_r (addr : Word) : (s.memRead16 addr).2.r = s.r := by
  simp [State.memRead16]
@[simp] theorem State.memRead16_iff1 (addr : Word) : (s.memRead16 addr).2.iff1 = s.iff1 := by
  simp [State.memRead16]
@[simp] theorem State.memRead16_iff2 (addr : Word) : (s.memRead16 addr).2.iff2 = s.iff2 := by
  simp [State.memRead16]
@[simp] theorem State.memRead16_im (addr : Word) : (s.memRead16 addr).2.im = s.im := by
  simp [State.memRead16]
@[simp] theorem State.memRead16_irqDelay (addr : Word) : (s.memRead16 addr).2.irqDelay = s.irqDelay := by
  simp [State.memRead16]
@[simp] theorem State.memRead16_halted (addr : Word) : (s.memRead16 addr).2.halted = s.halted := by
  simp [State.memRead16]
@[simp] theorem State.memRead16_portIn (addr : Word) : (s.memRead16 addr).2.portIn = s.portIn := by
  simp [State.memRead16]
@[simp] theorem State.memRead16_freeCount (addr : Word) : (s.memRead16 addr).2.freeCount = s.freeCount := by
  simp [State.memRead16]
@[simp] theorem State.memRead16_env (addr : Word) : (s.memRead16 addr).2.env = s.env := by
  simp [State.memRead16]

/-! ### `memWrite16` -/

@[simp] theorem State.memWrite16_a (addr v : Word) : (s.memWrite16 addr v).a = s.a := by
  simp [State.memWrite16]
@[simp] theorem State.memWrite16_f (addr v : Word) : (s.memWrite16 addr v).f = s.f := by
  simp [State.memWrite16]
@[simp] theorem State.memWrite16_b (addr v : Word) : (s.memWrite16 addr v).b = s.b := by
  simp [State.memWrite16]
@[simp] theorem State.memWrite16_c (addr v : Word) : (s.memWrite16 addr v).c = s.c := by
  simp [State.memWrite16]
@[simp] theorem State.memWrite16_d (addr v : Word) : (s.memWrite16 addr v).d = s.d := by
  simp [State.memWrite16]
@[simp] theorem State.memWrite16_e (addr v : Word) : (s.memWrite16 addr v).e = s.e := by
  simp [State.memWrite16]
@[simp] theorem State.memWrite16_h (addr v : Word) : (s.memWrite16 addr v).h = s.h := by
  simp [State.memWrite16]
@[simp] theorem State.memWrite16_l (addr v : Word) : (s.memWrite16 addr v).l = s.l := by
  simp [State.memWrite16]
@[simp] theorem State.memWrite16_af' (addr v : Word) : (s.memWrite16 addr v).af' = s.af' := by
  simp [State.memWrite16]
@[simp] theorem State.memWrite16_bc' (addr v : Word) : (s.memWrite16 addr v).bc' = s.bc' := by
  simp [State.memWrite16]
@[simp] theorem State.memWrite16_de' (addr v : Word) : (s.memWrite16 addr v).de' = s.de' := by
  simp [State.memWrite16]
@[simp] theorem State.memWrite16_hl' (addr v : Word) : (s.memWrite16 addr v).hl' = s.hl' := by
  simp [State.memWrite16]
@[simp] theorem State.memWrite16_ix (addr v : Word) : (s.memWrite16 addr v).ix = s.ix := by
  simp [State.memWrite16]
@[simp] theorem State.memWrite16_iy (addr v : Word) : (s.memWrite16 addr v).iy = s.iy := by
  simp [State.memWrite16]
@[simp] theorem State.memWrite16_sp (addr v : Word) : (s.memWrite16 addr v).sp = s.sp := by
  simp [State.memWrite16]
@[simp] theorem State.memWrite16_pc (addr v : Word) : (s.memWrite16 addr v).pc = s.pc := by
  simp [State.memWrite16]
@[simp] theorem State.memWrite16_wz (addr v : Word) : (s.memWrite16 addr v).wz = s.wz := by
  simp [State.memWrite16]
@[simp] theorem State.memWrite16_i (addr v : Word) : (s.memWrite16 addr v).i = s.i := by
  simp [State.memWrite16]
@[simp] theorem State.memWrite16_r (addr v : Word) : (s.memWrite16 addr v).r = s.r := by
  simp [State.memWrite16]
@[simp] theorem State.memWrite16_iff1 (addr v : Word) : (s.memWrite16 addr v).iff1 = s.iff1 := by
  simp [State.memWrite16]
@[simp] theorem State.memWrite16_iff2 (addr v : Word) : (s.memWrite16 addr v).iff2 = s.iff2 := by
  simp [State.memWrite16]
@[simp] theorem State.memWrite16_im (addr v : Word) : (s.memWrite16 addr v).im = s.im := by
  simp [State.memWrite16]
@[simp] theorem State.memWrite16_irqDelay (addr v : Word) : (s.memWrite16 addr v).irqDelay = s.irqDelay := by
  simp [State.memWrite16]
@[simp] theorem State.memWrite16_halted (addr v : Word) : (s.memWrite16 addr v).halted = s.halted := by
  simp [State.memWrite16]
@[simp] theorem State.memWrite16_portIn (addr v : Word) : (s.memWrite16 addr v).portIn = s.portIn := by
  simp [State.memWrite16]
@[simp] theorem State.memWrite16_freeCount (addr v : Word) : (s.memWrite16 addr v).freeCount = s.freeCount := by
  simp [State.memWrite16]
@[simp] theorem State.memWrite16_env (addr v : Word) : (s.memWrite16 addr v).env = s.env := by
  simp [State.memWrite16]

/-! ### `push16` -/

@[simp] theorem State.push16_a (v : Word) : (s.push16 v).a = s.a := by
  simp [State.push16]
@[simp] theorem State.push16_f (v : Word) : (s.push16 v).f = s.f := by
  simp [State.push16]
@[simp] theorem State.push16_b (v : Word) : (s.push16 v).b = s.b := by
  simp [State.push16]
@[simp] theorem State.push16_c (v : Word) : (s.push16 v).c = s.c := by
  simp [State.push16]
@[simp] theorem State.push16_d (v : Word) : (s.push16 v).d = s.d := by
  simp [State.push16]
@[simp] theorem State.push16_e (v : Word) : (s.push16 v).e = s.e := by
  simp [State.push16]
@[simp] theorem State.push16_h (v : Word) : (s.push16 v).h = s.h := by
  simp [State.push16]
@[simp] theorem State.push16_l (v : Word) : (s.push16 v).l = s.l := by
  simp [State.push16]
@[simp] theorem State.push16_af' (v : Word) : (s.push16 v).af' = s.af' := by
  simp [State.push16]
@[simp] theorem State.push16_bc' (v : Word) : (s.push16 v).bc' = s.bc' := by
  simp [State.push16]
@[simp] theorem State.push16_de' (v : Word) : (s.push16 v).de' = s.de' := by
  simp [State.push16]
@[simp] theorem State.push16_hl' (v : Word) : (s.push16 v).hl' = s.hl' := by
  simp [State.push16]
@[simp] theorem State.push16_ix (v : Word) : (s.push16 v).ix = s.ix := by
  simp [State.push16]
@[simp] theorem State.push16_iy (v : Word) : (s.push16 v).iy = s.iy := by
  simp [State.push16]
@[simp] theorem State.push16_sp (v : Word) : (s.push16 v).sp = s.sp - 1#16 - 1#16 := by
  simp [State.push16]
@[simp] theorem State.push16_pc (v : Word) : (s.push16 v).pc = s.pc := by
  simp [State.push16]
@[simp] theorem State.push16_wz (v : Word) : (s.push16 v).wz = s.wz := by
  simp [State.push16]
@[simp] theorem State.push16_i (v : Word) : (s.push16 v).i = s.i := by
  simp [State.push16]
@[simp] theorem State.push16_r (v : Word) : (s.push16 v).r = s.r := by
  simp [State.push16]
@[simp] theorem State.push16_iff1 (v : Word) : (s.push16 v).iff1 = s.iff1 := by
  simp [State.push16]
@[simp] theorem State.push16_iff2 (v : Word) : (s.push16 v).iff2 = s.iff2 := by
  simp [State.push16]
@[simp] theorem State.push16_im (v : Word) : (s.push16 v).im = s.im := by
  simp [State.push16]
@[simp] theorem State.push16_irqDelay (v : Word) : (s.push16 v).irqDelay = s.irqDelay := by
  simp [State.push16]
@[simp] theorem State.push16_halted (v : Word) : (s.push16 v).halted = s.halted := by
  simp [State.push16]
@[simp] theorem State.push16_portIn (v : Word) : (s.push16 v).portIn = s.portIn := by
  simp [State.push16]
@[simp] theorem State.push16_freeCount (v : Word) : (s.push16 v).freeCount = s.freeCount := by
  simp [State.push16]
@[simp] theorem State.push16_env (v : Word) : (s.push16 v).env = s.env := by
  simp [State.push16]

/-! ### `pop16` -/

@[simp] theorem State.pop16_a : s.pop16.2.a = s.a := by
  simp [State.pop16]
@[simp] theorem State.pop16_f : s.pop16.2.f = s.f := by
  simp [State.pop16]
@[simp] theorem State.pop16_b : s.pop16.2.b = s.b := by
  simp [State.pop16]
@[simp] theorem State.pop16_c : s.pop16.2.c = s.c := by
  simp [State.pop16]
@[simp] theorem State.pop16_d : s.pop16.2.d = s.d := by
  simp [State.pop16]
@[simp] theorem State.pop16_e : s.pop16.2.e = s.e := by
  simp [State.pop16]
@[simp] theorem State.pop16_h : s.pop16.2.h = s.h := by
  simp [State.pop16]
@[simp] theorem State.pop16_l : s.pop16.2.l = s.l := by
  simp [State.pop16]
@[simp] theorem State.pop16_af' : s.pop16.2.af' = s.af' := by
  simp [State.pop16]
@[simp] theorem State.pop16_bc' : s.pop16.2.bc' = s.bc' := by
  simp [State.pop16]
@[simp] theorem State.pop16_de' : s.pop16.2.de' = s.de' := by
  simp [State.pop16]
@[simp] theorem State.pop16_hl' : s.pop16.2.hl' = s.hl' := by
  simp [State.pop16]
@[simp] theorem State.pop16_ix : s.pop16.2.ix = s.ix := by
  simp [State.pop16]
@[simp] theorem State.pop16_iy : s.pop16.2.iy = s.iy := by
  simp [State.pop16]
@[simp] theorem State.pop16_sp : s.pop16.2.sp = s.sp + 1#16 + 1#16 := by
  simp [State.pop16]
@[simp] theorem State.pop16_pc : s.pop16.2.pc = s.pc := by
  simp [State.pop16]
@[simp] theorem State.pop16_wz : s.pop16.2.wz = s.wz := by
  simp [State.pop16]
@[simp] theorem State.pop16_i : s.pop16.2.i = s.i := by
  simp [State.pop16]
@[simp] theorem State.pop16_r : s.pop16.2.r = s.r := by
  simp [State.pop16]
@[simp] theorem State.pop16_iff1 : s.pop16.2.iff1 = s.iff1 := by
  simp [State.pop16]
@[simp] theorem State.pop16_iff2 : s.pop16.2.iff2 = s.iff2 := by
  simp [State.pop16]
@[simp] theorem State.pop16_im : s.pop16.2.im = s.im := by
  simp [State.pop16]
@[simp] theorem State.pop16_irqDelay : s.pop16.2.irqDelay = s.irqDelay := by
  simp [State.pop16]
@[simp] theorem State.pop16_halted : s.pop16.2.halted = s.halted := by
  simp [State.pop16]
@[simp] theorem State.pop16_portIn : s.pop16.2.portIn = s.portIn := by
  simp [State.pop16]
@[simp] theorem State.pop16_freeCount : s.pop16.2.freeCount = s.freeCount := by
  simp [State.pop16]
@[simp] theorem State.pop16_env : s.pop16.2.env = s.env := by
  simp [State.pop16]

/-! ### `portAnswer` -/

@[simp] theorem State.portAnswer_a : s.portAnswer.2.a = s.a := by
  unfold State.portAnswer
  split <;> rfl
@[simp] theorem State.portAnswer_f : s.portAnswer.2.f = s.f := by
  unfold State.portAnswer
  split <;> rfl
@[simp] theorem State.portAnswer_b : s.portAnswer.2.b = s.b := by
  unfold State.portAnswer
  split <;> rfl
@[simp] theorem State.portAnswer_c : s.portAnswer.2.c = s.c := by
  unfold State.portAnswer
  split <;> rfl
@[simp] theorem State.portAnswer_d : s.portAnswer.2.d = s.d := by
  unfold State.portAnswer
  split <;> rfl
@[simp] theorem State.portAnswer_e : s.portAnswer.2.e = s.e := by
  unfold State.portAnswer
  split <;> rfl
@[simp] theorem State.portAnswer_h : s.portAnswer.2.h = s.h := by
  unfold State.portAnswer
  split <;> rfl
@[simp] theorem State.portAnswer_l : s.portAnswer.2.l = s.l := by
  unfold State.portAnswer
  split <;> rfl
@[simp] theorem State.portAnswer_af' : s.portAnswer.2.af' = s.af' := by
  unfold State.portAnswer
  split <;> rfl
@[simp] theorem State.portAnswer_bc' : s.portAnswer.2.bc' = s.bc' := by
  unfold State.portAnswer
  split <;> rfl
@[simp] theorem State.portAnswer_de' : s.portAnswer.2.de' = s.de' := by
  unfold State.portAnswer
  split <;> rfl
@[simp] theorem State.portAnswer_hl' : s.portAnswer.2.hl' = s.hl' := by
  unfold State.portAnswer
  split <;> rfl
@[simp] theorem State.portAnswer_ix : s.portAnswer.2.ix = s.ix := by
  unfold State.portAnswer
  split <;> rfl
@[simp] theorem State.portAnswer_iy : s.portAnswer.2.iy = s.iy := by
  unfold State.portAnswer
  split <;> rfl
@[simp] theorem State.portAnswer_sp : s.portAnswer.2.sp = s.sp := by
  unfold State.portAnswer
  split <;> rfl
@[simp] theorem State.portAnswer_pc : s.portAnswer.2.pc = s.pc := by
  unfold State.portAnswer
  split <;> rfl
@[simp] theorem State.portAnswer_wz : s.portAnswer.2.wz = s.wz := by
  unfold State.portAnswer
  split <;> rfl
@[simp] theorem State.portAnswer_i : s.portAnswer.2.i = s.i := by
  unfold State.portAnswer
  split <;> rfl
@[simp] theorem State.portAnswer_r : s.portAnswer.2.r = s.r := by
  unfold State.portAnswer
  split <;> rfl
@[simp] theorem State.portAnswer_iff1 : s.portAnswer.2.iff1 = s.iff1 := by
  unfold State.portAnswer
  split <;> rfl
@[simp] theorem State.portAnswer_iff2 : s.portAnswer.2.iff2 = s.iff2 := by
  unfold State.portAnswer
  split <;> rfl
@[simp] theorem State.portAnswer_im : s.portAnswer.2.im = s.im := by
  unfold State.portAnswer
  split <;> rfl
@[simp] theorem State.portAnswer_req : s.portAnswer.2.req = s.req := by
  unfold State.portAnswer
  split <;> rfl
@[simp] theorem State.portAnswer_irqDelay : s.portAnswer.2.irqDelay = s.irqDelay := by
  unfold State.portAnswer
  split <;> rfl
@[simp] theorem State.portAnswer_halted : s.portAnswer.2.halted = s.halted := by
  unfold State.portAnswer
  split <;> rfl
@[simp] theorem State.portAnswer_mem : s.portAnswer.2.mem = s.mem := by
  unfold State.portAnswer
  split <;> rfl
@[simp] theorem State.portAnswer_env : s.portAnswer.2.env = s.env := by
  unfold State.portAnswer
  split <;> rfl
@[simp] theorem State.portAnswer_inside : s.portAnswer.2.inside = s.inside := by
  unfold State.portAnswer
  split <;> rfl
@[simp] theorem State.portAnswer_trace : s.portAnswer.2.trace = s.trace := by
  unfold State.portAnswer
  split <;> rfl

/-- What the environment does inside an operation leaves its answer to a port read alone. -/
theorem State.portAnswer_congr {s t : State} (hp : s.portIn = t.portIn) (hc : s.freeCount = t.freeCount) :
    s.portAnswer.1 = t.portAnswer.1 ∧ s.portAnswer.2.portIn = t.portAnswer.2.portIn ∧
      s.portAnswer.2.freeCount = t.portAnswer.2.freeCount := by
  unfold State.portAnswer
  rw [hp, hc]
  split <;> simp [hp, hc]

@[simp] theorem State.portAnswer_react_value : s.react.portAnswer.1 = s.portAnswer.1 :=
  (State.portAnswer_congr (State.react_portIn s) (State.react_freeCount s)).1

@[simp] theorem State.portAnswer_react_portIn : s.react.portAnswer.2.portIn = s.portAnswer.2.portIn :=
  (State.portAnswer_congr (State.react_portIn s) (State.react_freeCount s)).2.1

@[simp] theorem State.portAnswer_react_freeCount : s.react.portAnswer.2.freeCount = s.portAnswer.2.freeCount :=
  (State.portAnswer_congr (State.react_portIn s) (State.react_freeCount s)).2.2

/-! ### `portRead` -/

@[simp] theorem State.portRead_a (port : Word) : (s.portRead port).2.a = s.a := by
  simp [State.portRead]
@[simp] theorem State.portRead_f (port : Word) : (s.portRead port).2.f = s.f := by
  simp [State.portRead]
@[simp] theorem State.portRead_b (port : Word) : (s.portRead port).2.b = s.b := by
  simp [State.portRead]
@[simp] theorem State.portRead_c (port : Word) : (s.portRead port).2.c = s.c := by
  simp [State.portRead]
@[simp] theorem State.portRead_d (port : Word) : (s.portRead port).2.d = s.d := by
  simp [State.portRead]
@[simp] theorem State.portRead_e (port : Word) : (s.portRead port).2.e = s.e := by
  simp [State.portRead]
@[simp] theorem State.portRead_h (port : Word) : (s.portRead port).2.h = s.h := by
  simp [State.portRead]
@[simp] theorem State.portRead_l (port : Word) : (s.portRead port).2.l = s.l := by
  simp [State.portRead]
@[simp] theorem State.portRead_af' (port : Word) : (s.portRead port).2.af' = s.af' := by
  simp [State.portRead]
@[simp] theorem State.portRead_bc' (port : Word) : (s.portRead port).2.bc' = s.bc' := by
  simp [State.portRead]
@[simp] theorem State.portRead_de' (port : Word) : (s.portRead port).2.de' = s.de' := by
  simp [State.portRead]
@[simp] theorem State.portRead_hl' (port : Word) : (s.portRead port).2.hl' = s.hl' := by
  simp [State.portRead]
@[simp] theorem State.portRead_ix (port : Word) : (s.portRead port).2.ix = s.ix := by
  simp [State.portRead]
@[simp] theorem State.portRead_iy (port : Word) : (s.portRead port).2.iy = s.iy := by
  simp [State.portRead]
@[simp] theorem State.portRead_sp (port : Word) : (s.portRead port).2.sp = s.sp := by
  simp [State.portRead]
@[simp] theorem State.portRead_pc (port : Word) : (s.portRead port).2.pc = s.pc := by
  simp [State.portRead]
@[simp] theorem State.portRead_wz (port : Word) : (s.portRead port).2.wz = s.wz := by
  simp [State.portRead]
@[simp] theorem State.portRead_i (port : Word) : (s.portRead port).2.i = s.i := by
  simp [State.portRead]
@[simp] theorem State.portRead_r (port : Word) : (s.portRead port).2.r = s.r := by
  simp [State.portRead]
@[simp] theorem State.portRead_iff1 (port : Word) : (s.portRead port).2.iff1 = s.iff1 := by
  simp [State.portRead]
@[simp] theorem State.portRead_iff2 (port : Word) : (s.portRead port).2.iff2 = s.iff2 := by
  simp [State.portRead]
@[simp] theorem State.portRead_im (port : Word) : (s.portRead port).2.im = s.im := by
  simp [State.portRead]
@[simp] theorem State.portRead_irqDelay (port : Word) : (s.portRead port).2.irqDelay = s.irqDelay := by
  simp [State.portRead]
@[simp] theorem State.portRead_halted (port : Word) : (s.portRead port).2.halted = s.halted := by
  simp [State.portRead]
@[simp] theorem State.portRead_portIn (port : Word) : (s.portRead port).2.portIn = s.portAnswer.2.portIn := by
  simp [State.portRead]
@[simp] theorem State.portRead_freeCount (port : Word) : (s.portRead port).2.freeCount = s.portAnswer.2.freeCount := by
  simp [State.portRead]
@[simp] theorem State.portRead_env (port : Word) : (s.portRead port).2.env = s.env := by
  simp [State.portRead]

/-- In a quiet environment. -/
theorem State.portRead_quiet (port : Word) (h : s.inside = []) :
    s.portRead port =
      (s.portAnswer.1, (s.portAnswer.2.emit (.portRead port s.portAnswer.1)).emit (.tick tPort)) := by
  rw [State.portRead, State.react_quiet s h]
  exact congrArg (Prod.mk _) (State.tick_quiet _ _ ((State.portAnswer_inside s).trans h))

/-! ### `portWrite` -/

@[simp] theorem State.portWrite_a (port : Word) (v : Byte) : (s.portWrite port v).a = s.a := by
  simp [State.portWrite]
@[simp] theorem State.portWrite_f (port : Word) (v : Byte) : (s.portWrite port v).f = s.f := by
  simp [State.portWrite]
@[simp] theorem State.portWrite_b (port : Word) (v : Byte) : (s.portWrite port v).b = s.b := by
  simp [State.portWrite]
@[simp] theorem State.portWrite_c (port : Word) (v : Byte) : (s.portWrite port v).c = s.c := by
  simp [State.portWrite]
@[simp] theorem State.portWrite_d (port : Word) (v : Byte) : (s.portWrite port v).d = s.d := by
  simp [State.portWrite]
@[simp] theorem State.portWrite_e (port : Word) (v : Byte) : (s.portWrite port v).e = s.e := by
  simp [State.portWrite]
@[simp] theorem State.portWrite_h (port : Word) (v : Byte) : (s.portWrite port v).h = s.h := by
  simp [State.portWrite]
@[simp] theorem State.portWrite_l (port : Word) (v : Byte) : (s.portWrite port v).l = s.l := by
  simp [State.portWrite]
@[simp] theorem State.portWrite_af' (port : Word) (v : Byte) : (s.portWrite port v).af' = s.af' := by
  simp [State.portWrite]
@[simp] theorem State.portWrite_bc' (port : Word) (v : Byte) : (s.portWrite port v).bc' = s.bc' := by
  simp [State.portWrite]
@[simp] theorem State.portWrite_de' (port : Word) (v : Byte) : (s.portWrite port v).de' = s.de' := by
  simp [State.portWrite]
@[simp] theorem State.portWrite_hl' (port : Word) (v : Byte) : (s.portWrite port v).hl' = s.hl' := by
  simp [State.portWrite]
@[simp] theorem State.portWrite_ix (port : Word) (v : Byte) : (s.portWrite port v).ix = s.ix := by
  simp [State.portWrite]
@[simp] theorem State.portWrite_iy (port : Word) (v : Byte) : (s.portWrite port v).iy = s.iy := by
  simp [State.portWrite]
@[simp] theorem State.portWrite_sp (port : Word) (v : Byte) : (s.portWrite port v).sp = s.sp := by
  simp [State.portWrite]
@[simp] theorem State.portWrite_pc (port : Word) (v : Byte) : (s.portWrite port v).pc = s.pc := by
  simp [State.portWrite]
@[simp] theorem State.portWrite_wz (port : Word) (v : Byte) : (s.portWrite port v).wz = s.wz := by
  simp [State.portWrite]
@[simp] theorem State.portWrite_i (port : Word) (v : Byte) : (s.portWrite port v).i = s.i := by
  simp [State.portWrite]
@[simp] theorem State.portWrite_r (port : Word) (v : Byte) : (s.portWrite port v).r = s.r := by
  simp [State.portWrite]
@[simp] theorem State.portWrite_iff1 (port : Word) (v : Byte) : (s.portWrite port v).iff1 = s.iff1 := by
  simp [State.portWrite]
@[simp] theorem State.portWrite_iff2 (port : Word) (v : Byte) : (s.portWrite port v).iff2 = s.iff2 := by
  simp [State.portWrite]
@[simp] theorem State.portWrite_im (port : Word) (v : Byte) : (s.portWrite port v).im = s.im := by
  simp [State.portWrite]
@[simp] theorem State.portWrite_irqDelay (port : Word) (v : Byte) : (s.portWrite port v).irqDelay = s.irqDelay := by
  simp [State.portWrite]
@[simp] theorem State.portWrite_halted (port : Word) (v : Byte) : (s.portWrite port v).halted = s.halted := by
  simp [State.portWrite]
@[simp] theorem State.portWrite_portIn (port : Word) (v : Byte) : (s.portWrite port v).portIn = s.portIn := by
  simp [State.portWrite]
@[simp] theorem State.portWrite_freeCount (port : Word) (v : Byte) : (s.portWrite port v).freeCount = s.freeCount := by
  simp [State.portWrite]
@[simp] theorem State.portWrite_env (port : Word) (v : Byte) : (s.portWrite port v).env = s.env := by
  simp [State.portWrite]

/-- In a quiet environment. -/
theorem State.portWrite_quiet (port : Word) (v : Byte) (h : s.inside = []) :
    s.portWrite port v = (s.emit (.portWrite port v)).emit (.tick tPort) := by
  rw [State.portWrite, State.react_quiet s h]
  exact State.tick_quiet _ _ h

/-! ### `fetchByte` -/

@[simp] theorem State.fetchByte_a (charge : Nat) : (s.fetchByte charge).2.a = s.a := by
  simp [State.fetchByte]
@[simp] theorem State.fetchByte_f (charge : Nat) : (s.fetchByte charge).2.f = s.f := by
  simp [State.fetchByte]
@[simp] theorem State.fetchByte_b (charge : Nat) : (s.fetchByte charge).2.b = s.b := by
  simp [State.fetchByte]
@[simp] theorem State.fetchByte_c (charge : Nat) : (s.fetchByte charge).2.c = s.c := by
  simp [State.fetchByte]
@[simp] theorem State.fetchByte_d (charge : Nat) : (s.fetchByte charge).2.d = s.d := by
  simp [State.fetchByte]
@[simp] theorem State.fetchByte_e (charge : Nat) : (s.fetchByte charge).2.e = s.e := by
  simp [State.fetchByte]
@[simp] theorem State.fetchByte_h (charge : Nat) : (s.fetchByte charge).2.h = s.h := by
  simp [State.fetchByte]
@[simp] theorem State.fetchByte_l (charge : Nat) : (s.fetchByte charge).2.l = s.l := by
  simp [State.fetchByte]
@[simp] theorem State.fetchByte_af' (charge : Nat) : (s.fetchByte charge).2.af' = s.af' := by
  simp [State.fetchByte]
@[simp] theorem State.fetchByte_bc' (charge : Nat) : (s.fetchByte charge).2.bc' = s.bc' := by
  simp [State.fetchByte]
@[simp] theorem State.fetchByte_de' (charge : Nat) : (s.fetchByte charge).2.de' = s.de' := by
  simp [State.fetchByte]
@[simp] theorem State.fetchByte_hl' (charge : Nat) : (s.fetchByte charge).2.hl' = s.hl' := by
  simp [State.fetchByte]
@[simp] theorem State.fetchByte_ix (charge : Nat) : (s.fetchByte charge).2.ix = s.ix := by
  simp [State.fetchByte]
@[simp] theorem State.fetchByte_iy (charge : Nat) : (s.fetchByte charge).2.iy = s.iy := by
  simp [State.fetchByte]
@[simp] theorem State.fetchByte_sp (charge : Nat) : (s.fetchByte charge).2.sp = s.sp := by
  simp [State.fetchByte]
@[simp] theorem State.fetchByte_pc (charge : Nat) : (s.fetchByte charge).2.pc = s.pc + 1#16 := by
  simp [State.fetchByte]
@[simp] theorem State.fetchByte_wz (charge : Nat) : (s.fetchByte charge).2.wz = s.wz := by
  simp [State.fetchByte]
@[simp] theorem State.fetchByte_i (charge : Nat) : (s.fetchByte charge).2.i = s.i := by
  simp [State.fetchByte]
@[simp] theorem State.fetchByte_r (charge : Nat) : (s.fetchByte charge).2.r = s.r := by
  simp [State.fetchByte]
@[simp] theorem State.fetchByte_iff1 (charge : Nat) : (s.fetchByte charge).2.iff1 = s.iff1 := by
  simp [State.fetchByte]
@[simp] theorem State.fetchByte_iff2 (charge : Nat) : (s.fetchByte charge).2.iff2 = s.iff2 := by
  simp [State.fetchByte]
@[simp] theorem State.fetchByte_im (charge : Nat) : (s.fetchByte charge).2.im = s.im := by
  simp [State.fetchByte]
@[simp] theorem State.fetchByte_irqDelay (charge : Nat) : (s.fetchByte charge).2.irqDelay = s.irqDelay := by
  simp [State.fetchByte]
@[simp] theorem State.fetchByte_halted (charge : Nat) : (s.fetchByte charge).2.halted = s.halted := by
  simp [State.fetchByte]
@[simp] theorem State.fetchByte_portIn (charge : Nat) : (s.fetchByte charge).2.portIn = s.portIn := by
  simp [State.fetchByte]
@[simp] theorem State.fetchByte_freeCount (charge : Nat) : (s.fetchByte charge).2.freeCount = s.freeCount := by
  simp [State.fetchByte]
@[simp] theorem State.fetchByte_env (charge : Nat) : (s.fetchByte charge).2.env = s.env := by
  simp [State.fetchByte]

/-- In a quiet environment. -/
theorem State.fetchByte_quiet (charge : Nat) (h : s.inside = []) :
    s.fetchByte charge =
      (s.peek s.pc, ((s.emit (.memRead s.pc (s.peek s.pc))).setPc (s.pc + 1#16)).emit (.tick charge)) := by
  rw [State.fetchByte, State.busRead_quiet s _ h]
  exact congrArg (Prod.mk _) (State.tick_quiet _ _ h)

/-! ### `fetchOp` -/

@[simp] theorem State.fetchOp_a : s.fetchOp.2.a = s.a := by
  simp [State.fetchOp]
@[simp] theorem State.fetchOp_f : s.fetchOp.2.f = s.f := by
  simp [State.fetchOp]
@[simp] theorem State.fetchOp_b : s.fetchOp.2.b = s.b := by
  simp [State.fetchOp]
@[simp] theorem State.fetchOp_c : s.fetchOp.2.c = s.c := by
  simp [State.fetchOp]
@[simp] theorem State.fetchOp_d : s.fetchOp.2.d = s.d := by
  simp [State.fetchOp]
@[simp] theorem State.fetchOp_e : s.fetchOp.2.e = s.e := by
  simp [State.fetchOp]
@[simp] theorem State.fetchOp_h : s.fetchOp.2.h = s.h := by
  simp [State.fetchOp]
@[simp] theorem State.fetchOp_l : s.fetchOp.2.l = s.l := by
  simp [State.fetchOp]
@[simp] theorem State.fetchOp_af' : s.fetchOp.2.af' = s.af' := by
  simp [State.fetchOp]
@[simp] theorem State.fetchOp_bc' : s.fetchOp.2.bc' = s.bc' := by
  simp [State.fetchOp]
@[simp] theorem State.fetchOp_de' : s.fetchOp.2.de' = s.de' := by
  simp [State.fetchOp]
@[simp] theorem State.fetchOp_hl' : s.fetchOp.2.hl' = s.hl' := by
  simp [State.fetchOp]
@[simp] theorem State.fetchOp_ix : s.fetchOp.2.ix = s.ix := by
  simp [State.fetchOp]
@[simp] theorem State.fetchOp_iy : s.fetchOp.2.iy = s.iy := by
  simp [State.fetchOp]
@[simp] theorem State.fetchOp_sp : s.fetchOp.2.sp = s.sp := by
  simp [State.fetchOp]
@[simp] theorem State.fetchOp_pc : s.fetchOp.2.pc = s.pc + 1#16 := by
  simp [State.fetchOp]
@[simp] theorem State.fetchOp_wz : s.fetchOp.2.wz = s.wz := by
  simp [State.fetchOp]
@[simp] theorem State.fetchOp_i : s.fetchOp.2.i = s.i := by
  simp [State.fetchOp]
@[simp] theorem State.fetchOp_r : s.fetchOp.2.r = (s.r &&& 0x80#8) ||| ((s.r + 1#8) &&& 0x7F#8) := by
  simp [State.fetchOp]
@[simp] theorem State.fetchOp_iff1 : s.fetchOp.2.iff1 = s.iff1 := by
  simp [State.fetchOp]
@[simp] theorem State.fetchOp_iff2 : s.fetchOp.2.iff2 = s.iff2 := by
  simp [State.fetchOp]
@[simp] theorem State.fetchOp_im : s.fetchOp.2.im = s.im := by
  simp [State.fetchOp]
@[simp] theorem State.fetchOp_irqDelay : s.fetchOp.2.irqDelay = s.irqDelay := by
  simp [State.fetchOp]
@[simp] theorem State.fetchOp_halted : s.fetchOp.2.halted = s.halted := by
  simp [State.fetchOp]
@[simp] theorem State.fetchOp_portIn : s.fetchOp.2.portIn = s.portIn := by
  simp [State.fetchOp]
@[simp] theorem State.fetchOp_freeCount : s.fetchOp.2.freeCount = s.freeCount := by
  simp [State.fetchOp]
@[simp] theorem State.fetchOp_env : s.fetchOp.2.env = s.env := by
  simp [State.fetchOp]

end Sys2Proof.Machine
end

