-- ==== Sys2Proof/Laws/Ops.lean ====
section
/-! SUPPORT. One set of lemmas per shared operation of Machine/Ops.lean: what it does to the registers, to
every byte of memory and to the bus, and that it keeps the canonical form. What is said of memory and of the values
read is said for a quiet environment (`inside = []`); registers, bus and canonical form in every one. -/

namespace Sys2Proof.Machine

variable (s : State) (addr : Word)

/-! ## `SameRegs`, `peek` and `bus` under updates -/

/-- `SameRegs`, field by field. -/
theorem sameRegs_iff {t u : State} :
    SameRegs t u ↔
      t.a = u.a ∧ t.f = u.f ∧ t.b = u.b ∧ t.c = u.c ∧ t.d = u.d ∧
      t.e = u.e ∧ t.h = u.h ∧ t.l = u.l ∧ t.af' = u.af' ∧ t.bc' = u.bc' ∧
      t.de' = u.de' ∧ t.hl' = u.hl' ∧ t.ix = u.ix ∧ t.iy = u.iy ∧ t.sp = u.sp ∧
      t.pc = u.pc ∧ t.wz = u.wz ∧ t.i = u.i ∧ t.r = u.r ∧ t.iff1 = u.iff1 ∧
      t.iff2 = u.iff2 ∧ t.im = u.im ∧ t.req = u.req ∧ t.irqDelay = u.irqDelay ∧ t.halted = u.halted ∧
      t.portIn = u.portIn ∧ t.freeCount = u.freeCount ∧ t.env = u.env ∧ t.inside = u.inside := by
  simp only [SameRegs, State.ext_iff, and_true, true_and]

/-- `SameCore`, field by field. -/
theorem sameCore_iff {t u : State} :
    SameCore t u ↔
      t.a = u.a ∧ t.f = u.f ∧ t.b = u.b ∧ t.c = u.c ∧ t.d = u.d ∧
      t.e = u.e ∧ t.h = u.h ∧ t.l = u.l ∧ t.af' = u.af' ∧ t.bc' = u.bc' ∧
      t.de' = u.de' ∧ t.hl' = u.hl' ∧ t.ix = u.ix ∧ t.iy = u.iy ∧ t.sp = u.sp ∧
      t.pc = u.pc ∧ t.wz = u.wz ∧ t.i = u.i ∧ t.r = u.r ∧ t.iff1 = u.iff1 ∧
      t.iff2 = u.iff2 ∧ t.im = u.im ∧ t.irqDelay = u.irqDelay ∧ t.halted = u.halted ∧ t.portIn = u.portIn ∧
      t.freeCount = u.freeCount ∧ t.env = u.env := by
  simp only [SameCore, State.ext_iff, and_true, true_and]

@[simp] theorem State.peek_setA (v : Byte) : (s.setA v).peek addr = s.peek addr := rfl
@[simp] theorem State.peek_setF (v : Byte) : (s.setF v).peek addr = s.peek addr := rfl
@[simp] theorem State.peek_setB (v : Byte) : (s.setB v).peek addr = s.peek addr := rfl
@[simp] theorem State.peek_setC (v : Byte) : (s.setC v).peek addr = s.peek addr := rfl
@[simp] theorem State.peek_setD (v : Byte) : (s.setD v).peek addr = s.peek addr := rfl
@[simp] theorem State.peek_setE (v : Byte) : (s.setE v).peek addr = s.peek addr := rfl
@[simp] theorem State.peek_setH (v : Byte) : (s.setH v).peek addr = s.peek addr := rfl
@[simp] theorem State.peek_setL (v : Byte) : (s.setL v).peek addr = s.peek addr := rfl
@[simp] theorem State.peek_setAf' (v : Word) : (s.setAf' v).peek addr = s.peek addr := rfl
@[simp] theorem State.peek_setBc' (v : Word) : (s.setBc' v).peek addr = s.peek addr := rfl
@[simp] theorem State.peek_setDe' (v : Word) : (s.setDe' v).peek addr = s.peek addr := rfl
@[simp] theorem State.peek_setHl' (v : Word) : (s.setHl' v).peek addr = s.peek addr := rfl
@[simp] theorem State.peek_setIx (v : Word) : (s.setIx v).peek addr = s.peek addr := rfl
@[simp] theorem State.peek_setIy (v : Word) : (s.setIy v).peek addr = s.peek addr := rfl
@[simp] theorem State.peek_setSp (v : Word) : (s.setSp v).peek addr = s.peek addr := rfl
@[simp] theorem State.peek_setPc (v : Word) : (s.setPc v).peek addr = s.peek addr := rfl
@[simp] theorem State.peek_setWz (v : Word) : (s.setWz v).peek addr = s.peek addr := rfl
@[simp] theorem State.peek_setI (v : Byte) : (s.setI v).peek addr = s.peek addr := rfl
@[simp] theorem State.peek_setR (v : Byte) : (s.setR v).peek addr = s.peek addr := rfl
@[simp] theorem State.peek_setIff1 (v : Bool) : (s.setIff1 v).peek addr = s.peek addr := rfl
@[simp] theorem State.peek_setIff2 (v : Bool) : (s.setIff2 v).peek addr = s.peek addr := rfl
@[simp] theorem State.peek_setIm (v : IntMode) : (s.setIm v).peek addr = s.peek addr := rfl
@[simp] theorem State.peek_setReq (v : Req) : (s.setReq v).peek addr = s.peek addr := rfl
@[simp] theorem State.peek_setIrqDelay (v : Bool) : (s.setIrqDelay v).peek addr = s.peek addr := rfl
@[simp] theorem State.peek_setHalted (v : Bool) : (s.setHalted v).peek addr = s.peek addr := rfl
@[simp] theorem State.peek_setPortIn (v : List Byte) : (s.setPortIn v).peek addr = s.peek addr := rfl
@[simp] theorem State.peek_setFreeCount (v : Nat) : (s.setFreeCount v).peek addr = s.peek addr := rfl
@[simp] theorem State.peek_setEnv (v : List (List EnvAction)) : (s.setEnv v).peek addr = s.peek addr := rfl
@[simp] theorem State.peek_setInside (v : List (List EnvAction)) : (s.setInside v).peek addr = s.peek addr := rfl
@[simp] theorem State.peek_setAf (v : Word) : (s.setAf v).peek addr = s.peek addr := rfl
@[simp] theorem State.peek_setBc (v : Word) : (s.setBc v).peek addr = s.peek addr := rfl
@[simp] theorem State.peek_setDe (v : Word) : (s.setDe v).peek addr = s.peek addr := rfl
@[simp] theorem State.peek_setHl (v : Word) : (s.setHl v).peek addr = s.peek addr := rfl
@[simp] theorem State.peek_incR : s.incR.peek addr = s.peek addr := rfl
@[simp] theorem State.peek_emit (o : BusOp) : (s.emit o).peek addr = s.peek addr := rfl

@[simp] theorem State.bus_setA (v : Byte) : (s.setA v).bus = s.bus := rfl
@[simp] theorem State.bus_setF (v : Byte) : (s.setF v).bus = s.bus := rfl
@[simp] theorem State.bus_setB (v : Byte) : (s.setB v).bus = s.bus := rfl
@[simp] theorem State.bus_setC (v : Byte) : (s.setC v).bus = s.bus := rfl
@[simp] theorem State.bus_setD (v : Byte) : (s.setD v).bus = s.bus := rfl
@[simp] theorem State.bus_setE (v : Byte) : (s.setE v).bus = s.bus := rfl
@[simp] theorem State.bus_setH (v : Byte) : (s.setH v).bus = s.bus := rfl
@[simp] theorem State.bus_setL (v : Byte) : (s.setL v).bus = s.bus := rfl
@[simp] theorem State.bus_setAf' (v : Word) : (s.setAf' v).bus = s.bus := rfl
@[simp] theorem State.bus_setBc' (v : Word) : (s.setBc' v).bus = s.bus := rfl
@[simp] theorem State.bus_setDe' (v : Word) : (s.setDe' v).bus = s.bus := rfl
@[simp] theorem State.bus_setHl' (v : Word) : (s.setHl' v).bus = s.bus := rfl
@[simp] theorem State.bus_setIx (v : Word) : (s.setIx v).bus = s.bus := rfl
@[simp] theorem State.bus_setIy (v : Word) : (s.setIy v).bus = s.bus := rfl
@[simp] theorem State.bus_setSp (v : Word) : (s.setSp v).bus = s.bus := rfl
@[simp] theorem State.bus_setPc (v : Word) : (s.setPc v).bus = s.bus := rfl
@[simp] theorem State.bus_setWz (v : Word) : (s.setWz v).bus = s.bus := rfl
@[simp] theorem State.bus_setI (v : Byte) : (s.setI v).bus = s.bus := rfl
@[simp] theorem State.bus_setR (v : Byte) : (s.setR v).bus = s.bus := rfl
@[simp] theorem State.bus_setIff1 (v : Bool) : (s.setIff1 v).bus = s.bus := rfl
@[simp] theorem State.bus_setIff2 (v : Bool) : (s.setIff2 v).bus = s.bus := rfl
@[simp] theorem State.bus_setIm (v : IntMode) : (s.setIm v).bus = s.bus := rfl
@[simp] theorem State.bus_setReq (v : Req) : (s.setReq v).bus = s.bus := rfl
@[simp] theorem State.bus_setIrqDelay (v : Bool) : (s.setIrqDelay v).bus = s.bus := rfl
@[simp] theorem State.bus_setHalted (v : Bool) : (s.setHalted v).bus = s.bus := rfl
@[simp] theorem State.bus_setMem (v : Memory) : (s.setMem v).bus = s.bus := rfl
@[simp] theorem State.bus_setPortIn (v : List Byte) : (s.setPortIn v).bus = s.bus := rfl
@[simp] theorem State.bus_setFreeCount (v : Nat) : (s.setFreeCount v).bus = s.bus := rfl
@[simp] theorem State.bus_setEnv (v : List (List EnvAction)) : (s.setEnv v).bus = s.bus := rfl
@[simp] theorem State.bus_setInside (v : List (List EnvAction)) : (s.setInside v).bus = s.bus := rfl
@[simp] theorem State.bus_setAf (v : Word) : (s.setAf v).bus = s.bus := rfl
@[simp] theorem State.bus_setBc (v : Word) : (s.setBc v).bus = s.bus := rfl
@[simp] theorem State.bus_setDe (v : Word) : (s.setDe v).bus = s.bus := rfl
@[simp] theorem State.bus_setHl (v : Word) : (s.setHl v).bus = s.bus := rfl
@[simp] theorem State.bus_incR : s.incR.bus = s.bus := rfl

@[simp] theorem BusOp.isOp_memRead (a : Word) (v : Byte) : BusOp.isOp (.memRead a v) = true := rfl
@[simp] theorem BusOp.isOp_memWrite (a : Word) (v : Byte) : BusOp.isOp (.memWrite a v) = true := rfl
@[simp] theorem BusOp.isOp_portRead (a : Word) (v : Byte) : BusOp.isOp (.portRead a v) = true := rfl
@[simp] theorem BusOp.isOp_portWrite (a : Word) (v : Byte) : BusOp.isOp (.portWrite a v) = true := rfl
@[simp] theorem BusOp.isOp_debugNmiActivated : BusOp.isOp (.debugNmiActivated) = true := rfl
@[simp] theorem BusOp.isOp_tick (n : Nat) : BusOp.isOp (.tick n) = false := rfl
@[simp] theorem BusOp.isOp_pcQuery (a : Word) : BusOp.isOp (.pcQuery a) = false := rfl

@[simp] theorem State.bus_emit (o : BusOp) :
    (s.emit o).bus = if o.isOp then o :: s.bus else s.bus := by
  cases o <;> rfl

theorem State.peek_setMem (m : Memory) : (s.setMem m).peek addr = m.read addr.toNat := rfl

/-- Memory alone decides what `peek` gives. -/
theorem State.peek_congr {s t : State} (h : s.mem = t.mem) (a : Word) : s.peek a = t.peek a := by
  unfold State.peek
  rw [h]

/-! ## Addresses and halves -/

/-- Two successive addresses differ, the wrap from 0xFFFF to 0x0000 included. -/
theorem addr_succ_ne (a : Word) : a + 1#16 ≠ a := by
  bv_omega

theorem sub_one_sub_one (a : Word) : a - 1#16 - 1#16 = a - 2#16 := by
  bv_omega

theorem add_one_add_one (a : Word) : a + 1#16 + 1#16 = a + 2#16 := by
  bv_omega

theorem sub_two_add_one (a : Word) : a - 2#16 + 1#16 = a - 1#16 := by
  bv_omega

@[simp] theorem hi8_join16 (h l : Byte) : hi8 (join16 h l) = h := by
  unfold hi8 join16
  apply BitVec.eq_of_toNat_eq
  simp only [BitVec.extractLsb'_toNat, BitVec.toNat_append]
  have := l.isLt
  have := h.isLt
  rw [Nat.shiftRight_eq_div_pow, ← Nat.shiftLeft_add_eq_or_of_lt l.isLt, Nat.shiftLeft_eq]
  omega

@[simp] theorem lo8_join16 (h l : Byte) : lo8 (join16 h l) = l := by
  unfold lo8 join16
  apply BitVec.eq_of_toNat_eq
  simp only [BitVec.extractLsb'_toNat, BitVec.toNat_append]
  have := l.isLt
  have := h.isLt
  rw [Nat.shiftRight_eq_div_pow, ← Nat.shiftLeft_add_eq_or_of_lt l.isLt, Nat.shiftLeft_eq]
  omega

@[simp] theorem join16_halves (v : Word) : join16 (hi8 v) (lo8 v) = v := by
  unfold hi8 lo8 join16
  apply BitVec.eq_of_toNat_eq
  simp only [BitVec.extractLsb'_toNat, BitVec.toNat_append]
  have := v.isLt
  rw [← Nat.shiftLeft_add_eq_or_of_lt (Nat.mod_lt _ (by decide)), Nat.shiftLeft_eq,
    Nat.shiftRight_eq_div_pow]
  omega

/-! ## What the environment does -/

/-- A query of PC goes to the record only; no action of the environment is an operation of the core. -/
@[simp] theorem State.bus_act (x : EnvAction) : (s.act x).bus = s.bus := by
  cases x <;> rfl

@[simp] theorem State.bus_acts (l : List EnvAction) : ∀ s : State, (s.acts l).bus = s.bus := by
  induction l with
  | nil => exact fun _ => rfl
  | cons x l ih => exact fun s => (ih _).trans (State.bus_act s x)

@[simp] theorem State.bus_react : s.react.bus = s.bus := by
  unfold State.react
  split
  · rfl
  · exact State.bus_acts _ _

@[simp] theorem State.bus_arrive : s.arrive.bus = s.bus := by
  unfold State.arrive
  split
  · rfl
  · exact State.bus_acts _ _

@[simp] theorem State.bus_tick (n : Nat) : (s.tick n).bus = s.bus := State.bus_react _

theorem State.canonical_congr {s t : State} (h : s.mem = t.mem) (hs : t.Canonical) : s.Canonical := by
  unfold State.Canonical
  rw [h]
  exact hs

theorem State.act_canonical (x : EnvAction) (h : s.Canonical) : (s.act x).Canonical := by
  cases x with
  | changeByte a v => exact Memory.write_wf a v h
  | _ => exact h

theorem State.acts_canonical (l : List EnvAction) :
    ∀ s : State, s.Canonical → (s.acts l).Canonical := by
  induction l with
  | nil => exact fun _ h => h
  | cons x l ih => exact fun s h => ih _ (State.act_canonical s x h)

theorem State.arrive_canonical (h : s.Canonical) : s.arrive.Canonical := by
  unfold State.arrive
  split
  · exact h
  · exact State.acts_canonical _ (s.setEnv _) h

theorem State.react_canonical (h : s.Canonical) : s.react.Canonical := by
  unfold State.react
  split
  · exact h
  · exact State.acts_canonical _ (s.setInside _) h

theorem State.tick_canonical (n : Nat) (h : s.Canonical) : (s.tick n).Canonical :=
  State.react_canonical _ h

/-- The request bits after some actions depend on the request bits before them. -/
theorem State.acts_req_congr (l : List EnvAction) :
    ∀ {s t : State}, s.req = t.req → (s.acts l).req = (t.acts l).req := by
  induction l with
  | nil => exact fun h => h
  | cons x l ih =>
    intro s t h
    refine ih ?_
    cases x <;> simp [State.act, h]

theorem EnvStep.of_eq {s t : State} (hi : t.inside = s.inside) (hr : t.req = s.req) : EnvStep s t :=
  ⟨[], by simp [hi], by simp [hr]⟩

theorem EnvStep.trans {s t u : State} (h : EnvStep s t) (h' : EnvStep t u) : EnvStep s u := by
  obtain ⟨l, e, r⟩ := h
  obtain ⟨l', e', r'⟩ := h'
  refine ⟨l ++ l', by rw [e, e', List.append_assoc], ?_⟩
  rw [r', List.flatten_append, State.acts_append]
  exact State.acts_req_congr _ r

theorem State.react_envStep : EnvStep s s.react := by
  unfold State.react
  split
  · exact .of_eq rfl rfl
  · next l rest h =>
    refine ⟨[l], by simp [h], ?_⟩
    rw [List.flatten_cons, List.flatten_nil, List.append_nil]
    exact State.acts_req_congr l rfl

theorem State.tick_envStep (n : Nat) : EnvStep s (s.tick n) :=
  EnvStep.trans (.of_eq (s := s) (t := s.emit (.tick n)) rfl rfl) (State.react_envStep _)

/-! ## One byte -/

theorem State.memRead_value : (s.memRead addr).1 = s.react.peek addr := rfl

theorem State.memRead_core : SameCore (s.memRead addr).2 s := by
  simp [sameCore_iff]

/-- A read is on the record with what the environment answered. -/
@[simp] theorem State.memRead_bus : (s.memRead addr).2.bus = .memRead addr (s.memRead addr).1 :: s.bus := by
  simp [State.memRead, State.busRead]

theorem State.memRead_canonical (h : s.Canonical) : (s.memRead addr).2.Canonical :=
  State.tick_canonical _ _ (State.react_canonical s h)

theorem State.memRead_envStep : EnvStep s (s.memRead addr).2 := by
  have h : EnvStep s.react (s.busRead addr).2 := .of_eq rfl rfl
  exact ((State.react_envStep s).trans h).trans (State.tick_envStep _ tMem)

theorem State.memWrite_core (v : Byte) : SameCore (s.memWrite addr v) s := by
  simp [sameCore_iff]

@[simp] theorem State.memWrite_bus (v : Byte) : (s.memWrite addr v).bus = .memWrite addr v :: s.bus := by
  simp [State.memWrite]

theorem State.memWrite_canonical (v : Byte) (h : s.Canonical) : (s.memWrite addr v).Canonical :=
  State.tick_canonical _ _ (Memory.write_wf addr v (State.react_canonical s h))

theorem State.memWrite_envStep (v : Byte) : EnvStep s (s.memWrite addr v) := by
  have h : EnvStep s.react
      ((s.react.setMem (s.react.mem.write addr.toNat v)).emit (.memWrite addr v)) := .of_eq rfl rfl
  exact ((State.react_envStep s).trans h).trans (State.tick_envStep _ tMem)

/-- In a quiet environment a store writes its byte and no other. -/
theorem State.memWrite_peek (v : Byte) (hq : s.inside = []) (h : s.Canonical) (a : Word) :
    (s.memWrite addr v).peek a = s.poked addr v a := by
  rw [State.memWrite_quiet _ _ _ hq]
  show (s.mem.write addr.toNat v).read a.toNat = if a = addr then v else s.mem.read a.toNat
  rw [Memory.read_write h]
  simp only [BitVec.toNat_inj]

/-- It leaves every other byte alone, whatever the memory list. -/
theorem State.memWrite_peek_other (v : Byte) (hq : s.inside = []) {a : Word} (h : a ≠ addr) :
    (s.memWrite addr v).peek a = s.peek a := by
  rw [State.memWrite_quiet _ _ _ hq]
  exact Memory.read_write_other v (fun e => h (BitVec.eq_of_toNat_eq e)) s.mem

/-! ## Two bytes -/

theorem State.memRead16_core : SameCore (s.memRead16 addr).2 s := by
  simp [sameCore_iff]

/-- In a quiet environment the word read is the one memory holds. -/
theorem State.memRead16_quiet (hq : s.inside = []) :
    s.memRead16 addr =
      (s.peek16 addr,
        (((s.emit (.memRead addr (s.peek addr))).emit (.tick tMem)).emit
          (.memRead (addr + 1#16) (s.peek (addr + 1#16)))).emit (.tick tMem)) := by
  simp [State.memRead16, State.memRead_quiet, hq, State.peek16]

theorem State.memRead16_canonical (h : s.Canonical) : (s.memRead16 addr).2.Canonical :=
  State.memRead_canonical _ _ (State.memRead_canonical _ _ h)

theorem State.memRead16_envStep : EnvStep s (s.memRead16 addr).2 :=
  (State.memRead_envStep s addr).trans (State.memRead_envStep _ _)

theorem State.memWrite16_core (v : Word) : SameCore (s.memWrite16 addr v) s := by
  simp [sameCore_iff]

theorem State.memWrite16_canonical (v : Word) (h : s.Canonical) : (s.memWrite16 addr v).Canonical :=
  State.memWrite_canonical _ _ _ (State.memWrite_canonical _ _ _ h)

theorem State.memWrite16_envStep (v : Word) : EnvStep s (s.memWrite16 addr v) :=
  (State.memWrite_envStep s _ _).trans (State.memWrite_envStep _ _ _)

@[simp] theorem State.memWrite16_bus (v : Word) :
    (s.memWrite16 addr v).bus =
      .memWrite (addr + 1#16) (hi8 v) :: .memWrite addr (lo8 v) :: s.bus := by
  simp [State.memWrite16]

/-- In a quiet environment a word store writes its two bytes and no other. -/
theorem State.memWrite16_peek (v : Word) (hq : s.inside = []) (h : s.Canonical) (a : Word) :
    (s.memWrite16 addr v).peek a = s.poked16 addr v a := by
  have hq' : (s.memWrite addr (lo8 v)).inside = [] := by simp [State.memWrite_quiet, hq]
  unfold State.memWrite16 State.poked16
  rw [State.memWrite_peek _ _ _ hq' (State.memWrite_canonical _ _ _ h), State.poked,
    State.memWrite_peek _ _ _ hq h, State.poked]
  by_cases h1 : a = addr
  · have : a ≠ addr + 1#16 := fun e => addr_succ_ne addr (e.symm.trans h1)
    rw [if_neg this, if_pos h1]
    simp [h1]
  · simp [h1]

/-! ## The stack -/

theorem State.push16_core (v : Word) : SameCore (s.push16 v) (s.setSp (s.sp - 2#16)) := by
  simp [sameCore_iff, sub_one_sub_one]

theorem State.push16_canonical (v : Word) (h : s.Canonical) : (s.push16 v).Canonical :=
  State.memWrite_canonical _ _ _ (State.canonical_congr rfl (State.memWrite_canonical (s.setSp _) _ _ h))

theorem State.push16_envStep (v : Word) : EnvStep s (s.push16 v) := by
  have h1 : EnvStep s (s.setSp (s.sp - 1#16)) := .of_eq rfl rfl
  have h2 := h1.trans (State.memWrite_envStep _ (s.sp - 1#16) (hi8 v))
  generalize hu : (s.setSp (s.sp - 1#16)).memWrite (s.sp - 1#16) (hi8 v) = u at h2
  have h3 : EnvStep u (u.setSp (u.sp - 1#16)) := .of_eq rfl rfl
  have h4 := (h2.trans h3).trans (State.memWrite_envStep _ (u.sp - 1#16) (lo8 v))
  rw [← hu] at h4
  exact h4

/-- A push issues the high byte first (00_scope.md R7). -/
@[simp] theorem State.push16_bus (v : Word) :
    (s.push16 v).bus =
      .memWrite (s.sp - 2#16) (lo8 v) :: .memWrite (s.sp - 1#16) (hi8 v) :: s.bus := by
  simp [State.push16, sub_one_sub_one]

/-- In a quiet environment a push is two stores under the old SP. -/
theorem State.push16_quiet (v : Word) (hq : s.inside = []) :
    s.push16 v =
      (((s.setSp (s.sp - 2#16)).memWrite (s.sp - 1#16) (hi8 v)).memWrite (s.sp - 2#16) (lo8 v)) := by
  ext1 <;> simp [State.push16, State.memWrite_quiet, hq, sub_one_sub_one]

/-- In a quiet environment a push stores its word at the new SP and no other byte. -/
theorem State.push16_peek (v : Word) (hq : s.inside = []) (h : s.Canonical) (a : Word) :
    (s.push16 v).peek a = s.poked16 (s.sp - 2#16) v a := by
  have hc : (s.setSp (s.sp - 2#16)).Canonical := h
  have hq1 : (s.setSp (s.sp - 2#16)).inside = [] := hq
  have hq' : ((s.setSp (s.sp - 2#16)).memWrite (s.sp - 1#16) (hi8 v)).inside = [] := by
    simp [State.memWrite_quiet, hq]
  rw [State.push16_quiet _ _ hq, State.memWrite_peek _ _ _ hq' (State.memWrite_canonical _ _ _ hc),
    State.poked, State.memWrite_peek _ _ _ hq1 hc, State.poked, State.poked16, sub_two_add_one,
    State.peek_setSp]

theorem State.pop16_core : SameCore s.pop16.2 (s.setSp (s.sp + 2#16)) := by
  simp [sameCore_iff, add_one_add_one]

theorem State.pop16_canonical (h : s.Canonical) : s.pop16.2.Canonical :=
  State.canonical_congr rfl (State.memRead_canonical _ _
    (State.canonical_congr rfl (State.memRead_canonical s s.sp h)))

theorem State.pop16_envStep : EnvStep s s.pop16.2 := by
  have h1 := State.memRead_envStep s s.sp
  unfold State.pop16
  dsimp only
  generalize (s.memRead s.sp).2 = u at h1
  have h2 : EnvStep u (u.setSp (u.sp + 1#16)) := .of_eq rfl rfl
  have h3 := (h1.trans h2).trans (State.memRead_envStep _ (u.setSp (u.sp + 1#16)).sp)
  generalize ((u.setSp (u.sp + 1#16)).memRead (u.setSp (u.sp + 1#16)).sp).2 = w at h3 ⊢
  exact h3.trans (.of_eq rfl rfl)

/-- In a quiet environment a pop gives the word memory holds at SP. -/
theorem State.pop16_quiet (hq : s.inside = []) :
    s.pop16 =
      (s.peek16 s.sp,
        ((((s.emit (.memRead s.sp (s.peek s.sp))).emit (.tick tMem)).emit
          (.memRead (s.sp + 1#16) (s.peek (s.sp + 1#16)))).emit (.tick tMem)).setSp (s.sp + 2#16)) := by
  apply Prod.ext
  · simp [State.pop16, State.memRead_quiet, hq, State.peek16]
  · ext1 <;> simp [State.pop16, State.memRead_quiet, hq, add_one_add_one]

/-- Popping what was just pushed gives it back, in a quiet environment. -/
theorem State.pop16_push16 (v : Word) (hq : s.inside = []) (h : s.Canonical) : (s.push16 v).pop16.1 = v := by
  have hq' : (s.push16 v).inside = [] := by simp [State.push16_quiet, State.memWrite_quiet, hq]
  rw [State.pop16_quiet _ hq', State.peek16, State.push16_sp, sub_one_sub_one, State.push16_peek s v hq h,
    State.push16_peek s v hq h]
  simp [State.poked16]

/-! ## Ports -/

theorem State.portAnswer_ready {v : Byte} {rest : List Byte} (h : s.portIn = v :: rest) :
    s.portAnswer = (v, s.setPortIn rest) := by
  unfold State.portAnswer
  rw [h]

theorem State.portAnswer_free (h : s.portIn = []) :
    s.portAnswer = (Config.freePortByte s.freeCount, s.setFreeCount (s.freeCount + 1)) := by
  unfold State.portAnswer
  rw [h]

@[simp] theorem State.portAnswer_peek : s.portAnswer.2.peek addr = s.peek addr :=
  State.peek_congr (State.portAnswer_mem s) addr

@[simp] theorem State.portAnswer_bus : s.portAnswer.2.bus = s.bus := by
  unfold State.bus
  rw [State.portAnswer_trace]

@[simp] theorem State.portRead_value : (s.portRead addr).1 = s.portAnswer.1 := State.portAnswer_react_value s

theorem State.portRead_core : SameCore (s.portRead addr).2 s.portAnswer.2 := by
  simp [sameCore_iff]

@[simp] theorem State.portRead_bus : (s.portRead addr).2.bus = .portRead addr s.portAnswer.1 :: s.bus := by
  simp [State.portRead]

theorem State.portRead_canonical (h : s.Canonical) : (s.portRead addr).2.Canonical :=
  State.tick_canonical _ _
    (State.canonical_congr (State.portAnswer_mem s.react) (State.react_canonical s h))

theorem State.portRead_envStep : EnvStep s (s.portRead addr).2 := by
  have h : EnvStep s.react (s.react.portAnswer.2.emit (.portRead addr s.react.portAnswer.1)) :=
    .of_eq (State.portAnswer_inside s.react) (State.portAnswer_req s.react)
  exact ((State.react_envStep s).trans h).trans (State.tick_envStep _ tPort)

theorem State.portWrite_core (v : Byte) : SameCore (s.portWrite addr v) s := by
  simp [sameCore_iff]

@[simp] theorem State.portWrite_bus (v : Byte) : (s.portWrite addr v).bus = .portWrite addr v :: s.bus := by
  simp [State.portWrite]

theorem State.portWrite_canonical (v : Byte) (h : s.Canonical) : (s.portWrite addr v).Canonical :=
  State.tick_canonical _ _ (State.react_canonical s h)

theorem State.portWrite_envStep (v : Byte) : EnvStep s (s.portWrite addr v) := by
  have h : EnvStep s.react (s.react.emit (.portWrite addr v)) := .of_eq rfl rfl
  exact ((State.react_envStep s).trans h).trans (State.tick_envStep _ tPort)

/-! ## Fetching -/

/-- One fetch: PC past the byte, everything else of the core as it was. -/
theorem State.fetchByte_core (n : Nat) : SameCore (s.fetchByte n).2 (s.setPc (s.pc + 1#16)) := by
  simp [sameCore_iff]

@[simp] theorem State.fetchByte_bus (n : Nat) :
    (s.fetchByte n).2.bus = .memRead s.pc (s.fetchByte n).1 :: s.bus := by
  simp [State.fetchByte, State.busRead]

theorem State.fetchByte_canonical (n : Nat) (h : s.Canonical) : (s.fetchByte n).2.Canonical :=
  State.tick_canonical _ _ (State.react_canonical s h)

theorem State.fetchOp_core : SameCore s.fetchOp.2 (s.setPc (s.pc + 1#16)).incR := by
  simp [sameCore_iff]

@[simp] theorem State.fetchOp_bus : s.fetchOp.2.bus = .memRead s.pc s.fetchOp.1 :: s.bus := by
  show (s.fetchByte tFetchOp).2.bus = _
  exact State.fetchByte_bus s tFetchOp

theorem State.fetchOp_canonical (h : s.Canonical) : s.fetchOp.2.Canonical :=
  State.fetchByte_canonical s tFetchOp h

/-- The fetch of operand bytes: PC past them, everything else of the core as it was, one read for each. -/
theorem State.fetchActs_spec (l : List FetchAct) :
    ∀ s : State,
      SameCore (s.fetchActs l).2 (s.setPc (s.pc + BitVec.ofNat 16 (s.fetchActs l).1.length)) ∧
      (s.fetchActs l).2.bus = readsFrom s.pc (s.fetchActs l).1 ++ s.bus ∧
      (s.Canonical → (s.fetchActs l).2.Canonical) := by
  induction l with
  | nil =>
    intro s
    refine ⟨?_, rfl, id⟩
    simp [sameCore_iff, State.fetchActs]
  | cons a l ih =>
    intro s
    cases a with
    | operand =>
      obtain ⟨h1, hb, h2⟩ := ih (s.fetchByte tMem).2
      refine ⟨?_, ?_, fun hc => h2 (State.fetchByte_canonical s _ hc)⟩
      swap
      · simp [State.fetchActs, hb, readsFrom]
      simp only [sameCore_iff, State.setPc_pc] at h1 ⊢
      simp [State.fetchActs, h1, BitVec.ofNat_add, BitVec.add_assoc, BitVec.add_comm]
    | idle n =>
      obtain ⟨h1, hb, h2⟩ := ih (s.tick n)
      refine ⟨?_, by simp [State.fetchActs, hb], fun hc => h2 (State.tick_canonical s _ hc)⟩
      simp only [sameCore_iff, State.setPc_pc] at h1 ⊢
      simp [State.fetchActs, h1]

theorem State.fetchOperands_canonical (ops : List Byte) (h : s.Canonical) :
    (s.fetchOperands ops).2.Canonical := by
  unfold State.fetchOperands
  split
  · exact h
  · exact (State.fetchActs_spec _ s).2.2 h

/-- A fetch keeps the canonical form. -/
theorem State.fetch_canonical (h : s.Canonical) : s.fetch.2.Canonical := by
  have h1 := State.fetchOp_canonical s h
  have h2 := State.fetchOp_canonical _ h1
  unfold State.fetch
  dsimp only
  split
  · split
    · exact State.fetchByte_canonical _ _ (State.fetchByte_canonical _ _ h2)
    · exact State.fetchOperands_canonical _ _ h2
  · exact State.fetchOperands_canonical _ _ h1

/-! ## Handlers -/

/-- Entering a handler keeps the canonical form when finding its address does. -/
theorem State.enterHandler_canonical (b b' : Bool) (n : Nat) (target : State → Word × State)
    (ht : ∀ t, t.Canonical → (target t).2.Canonical) (h : s.Canonical) :
    (s.enterHandler b b' n target).Canonical := by
  have hc := State.tick_canonical (((s.setHalted false).incR.setIff1 b).setIff2 b') n h
  exact State.canonical_congr rfl (ht _ (State.push16_canonical _ _ hc))

theorem State.irqTarget_canonical (h : s.Canonical) : s.irqTarget.2.Canonical := by
  unfold State.irqTarget
  cases s.im
  · exact h
  · exact h
  · exact State.memRead16_canonical _ _ h

theorem State.serviceNmi_canonical (h : s.Canonical) : s.serviceNmi.Canonical := by
  have hc := State.enterHandler_canonical
    (s.setReq { s.req with nmiDebug := false, nmiOther := false }) false s.iff1 5
    (fun t => (Config.nmiVector, t)) (fun _ h => h) h
  refine State.canonical_congr ?_ hc
  unfold State.serviceNmi
  cases s.req.nmiDebug <;> simp

theorem State.serviceIrq_canonical (h : s.Canonical) : s.serviceIrq.Canonical :=
  State.enterHandler_canonical _ _ _ _ _ State.irqTarget_canonical h

theorem State.serviceReset_canonical (h : s.Canonical) : s.serviceReset.Canonical := by
  unfold State.serviceReset
  dsimp only
  refine State.tick_canonical _ _ (State.canonical_congr ?_ h)
  simp

/-- What a boundary does, in four cases (60_exceptions.md R421). -/
theorem State.boundary_cases :
    (s.req.reset = true ∧ s.boundary = (s.setIrqDelay false).serviceReset) ∨
    (s.req.reset = false ∧ (s.req.nmiDebug || s.req.nmiOther) = true ∧
      s.boundary = (s.setIrqDelay false).serviceNmi) ∨
    (s.req.reset = false ∧ (s.req.nmiDebug || s.req.nmiOther) = false ∧
      ((s.req.irqA || s.req.irqB) && s.iff1 && !s.irqDelay) = true ∧
      s.boundary = (s.setIrqDelay false).serviceIrq) ∨
    (s.req.reset = false ∧ (s.req.nmiDebug || s.req.nmiOther) = false ∧
      ((s.req.irqA || s.req.irqB) && s.iff1 && !s.irqDelay) = false ∧
      s.boundary = s.setIrqDelay false) := by
  by_cases hr : s.req.reset = true
  · exact .inl ⟨hr, by simp [State.boundary, hr]⟩
  · have hr' := Bool.eq_false_of_not_eq_true hr
    by_cases hn : (s.req.nmiDebug || s.req.nmiOther) = true
    · exact .inr (.inl ⟨hr', hn, by simp only [State.boundary, State.setIrqDelay_req, hr', hn]; rfl⟩)
    · have hn' := Bool.eq_false_of_not_eq_true hn
      by_cases hi : ((s.req.irqA || s.req.irqB) && s.iff1 && !s.irqDelay) = true
      · exact .inr (.inr (.inl ⟨hr', hn', hi, by
          simp only [State.boundary, State.setIrqDelay_req, State.setIrqDelay_iff1, hr', hn', hi]; rfl⟩))
      · have hi' := Bool.eq_false_of_not_eq_true hi
        exact .inr (.inr (.inr ⟨hr', hn', hi', by
          simp only [State.boundary, State.setIrqDelay_req, State.setIrqDelay_iff1, hr', hn', hi']; rfl⟩))

theorem State.boundary_canonical (h : s.Canonical) : s.boundary.Canonical := by
  have h' : (s.setIrqDelay false).Canonical := h
  obtain ⟨-, e⟩ | ⟨-, -, e⟩ | ⟨-, -, -, e⟩ | ⟨-, -, -, e⟩ := State.boundary_cases s <;> rw [e]
  · exact State.serviceReset_canonical _ h'
  · exact State.serviceNmi_canonical _ h'
  · exact State.serviceIrq_canonical _ h'
  · exact h'

end Sys2Proof.Machine
end

