-- ==== Sys2Proof/Laws/Operands.lean ====
section
/-! SUPPORT. The operand forms: what writing a register, a pair or a half leaves alone, and reads after
writes; then one set of lemmas per shared memory-operand shape. -/

namespace Sys2Proof.Machine

variable (s : State)

/-! ### `setR8` -/

@[simp] theorem State.setR8_f (r : Reg8) (v : Byte) : (s.setR8 r v).f = s.f := by
  cases r <;> rfl
@[simp] theorem State.setR8_af' (r : Reg8) (v : Byte) : (s.setR8 r v).af' = s.af' := by
  cases r <;> rfl
@[simp] theorem State.setR8_bc' (r : Reg8) (v : Byte) : (s.setR8 r v).bc' = s.bc' := by
  cases r <;> rfl
@[simp] theorem State.setR8_de' (r : Reg8) (v : Byte) : (s.setR8 r v).de' = s.de' := by
  cases r <;> rfl
@[simp] theorem State.setR8_hl' (r : Reg8) (v : Byte) : (s.setR8 r v).hl' = s.hl' := by
  cases r <;> rfl
@[simp] theorem State.setR8_ix (r : Reg8) (v : Byte) : (s.setR8 r v).ix = s.ix := by
  cases r <;> rfl
@[simp] theorem State.setR8_iy (r : Reg8) (v : Byte) : (s.setR8 r v).iy = s.iy := by
  cases r <;> rfl
@[simp] theorem State.setR8_sp (r : Reg8) (v : Byte) : (s.setR8 r v).sp = s.sp := by
  cases r <;> rfl
@[simp] theorem State.setR8_pc (r : Reg8) (v : Byte) : (s.setR8 r v).pc = s.pc := by
  cases r <;> rfl
@[simp] theorem State.setR8_wz (r : Reg8) (v : Byte) : (s.setR8 r v).wz = s.wz := by
  cases r <;> rfl
@[simp] theorem State.setR8_i (r : Reg8) (v : Byte) : (s.setR8 r v).i = s.i := by
  cases r <;> rfl
@[simp] theorem State.setR8_r (r : Reg8) (v : Byte) : (s.setR8 r v).r = s.r := by
  cases r <;> rfl
@[simp] theorem State.setR8_iff1 (r : Reg8) (v : Byte) : (s.setR8 r v).iff1 = s.iff1 := by
  cases r <;> rfl
@[simp] theorem State.setR8_iff2 (r : Reg8) (v : Byte) : (s.setR8 r v).iff2 = s.iff2 := by
  cases r <;> rfl
@[simp] theorem State.setR8_im (r : Reg8) (v : Byte) : (s.setR8 r v).im = s.im := by
  cases r <;> rfl
@[simp] theorem State.setR8_req (r : Reg8) (v : Byte) : (s.setR8 r v).req = s.req := by
  cases r <;> rfl
@[simp] theorem State.setR8_irqDelay (r : Reg8) (v : Byte) : (s.setR8 r v).irqDelay = s.irqDelay := by
  cases r <;> rfl
@[simp] theorem State.setR8_halted (r : Reg8) (v : Byte) : (s.setR8 r v).halted = s.halted := by
  cases r <;> rfl
@[simp] theorem State.setR8_mem (r : Reg8) (v : Byte) : (s.setR8 r v).mem = s.mem := by
  cases r <;> rfl
@[simp] theorem State.setR8_portIn (r : Reg8) (v : Byte) : (s.setR8 r v).portIn = s.portIn := by
  cases r <;> rfl
@[simp] theorem State.setR8_freeCount (r : Reg8) (v : Byte) : (s.setR8 r v).freeCount = s.freeCount := by
  cases r <;> rfl
@[simp] theorem State.setR8_env (r : Reg8) (v : Byte) : (s.setR8 r v).env = s.env := by
  cases r <;> rfl
@[simp] theorem State.setR8_inside (r : Reg8) (v : Byte) : (s.setR8 r v).inside = s.inside := by
  cases r <;> rfl
@[simp] theorem State.setR8_trace (r : Reg8) (v : Byte) : (s.setR8 r v).trace = s.trace := by
  cases r <;> rfl
@[simp] theorem State.setR8_peek (r : Reg8) (v : Byte) (addr : Word) : (s.setR8 r v).peek addr = s.peek addr := by
  cases r <;> rfl
@[simp] theorem State.setR8_bus (r : Reg8) (v : Byte) : (s.setR8 r v).bus = s.bus := by
  cases r <;> rfl

/-! ### `setRp` -/

@[simp] theorem State.setRp_a (p : Rp) (v : Word) : (s.setRp p v).a = s.a := by
  cases p <;> rfl
@[simp] theorem State.setRp_f (p : Rp) (v : Word) : (s.setRp p v).f = s.f := by
  cases p <;> rfl
@[simp] theorem State.setRp_af' (p : Rp) (v : Word) : (s.setRp p v).af' = s.af' := by
  cases p <;> rfl
@[simp] theorem State.setRp_bc' (p : Rp) (v : Word) : (s.setRp p v).bc' = s.bc' := by
  cases p <;> rfl
@[simp] theorem State.setRp_de' (p : Rp) (v : Word) : (s.setRp p v).de' = s.de' := by
  cases p <;> rfl
@[simp] theorem State.setRp_hl' (p : Rp) (v : Word) : (s.setRp p v).hl' = s.hl' := by
  cases p <;> rfl
@[simp] theorem State.setRp_ix (p : Rp) (v : Word) : (s.setRp p v).ix = s.ix := by
  cases p <;> rfl
@[simp] theorem State.setRp_iy (p : Rp) (v : Word) : (s.setRp p v).iy = s.iy := by
  cases p <;> rfl
@[simp] theorem State.setRp_pc (p : Rp) (v : Word) : (s.setRp p v).pc = s.pc := by
  cases p <;> rfl
@[simp] theorem State.setRp_wz (p : Rp) (v : Word) : (s.setRp p v).wz = s.wz := by
  cases p <;> rfl
@[simp] theorem State.setRp_i (p : Rp) (v : Word) : (s.setRp p v).i = s.i := by
  cases p <;> rfl
@[simp] theorem State.setRp_r (p : Rp) (v : Word) : (s.setRp p v).r = s.r := by
  cases p <;> rfl
@[simp] theorem State.setRp_iff1 (p : Rp) (v : Word) : (s.setRp p v).iff1 = s.iff1 := by
  cases p <;> rfl
@[simp] theorem State.setRp_iff2 (p : Rp) (v : Word) : (s.setRp p v).iff2 = s.iff2 := by
  cases p <;> rfl
@[simp] theorem State.setRp_im (p : Rp) (v : Word) : (s.setRp p v).im = s.im := by
  cases p <;> rfl
@[simp] theorem State.setRp_req (p : Rp) (v : Word) : (s.setRp p v).req = s.req := by
  cases p <;> rfl
@[simp] theorem State.setRp_irqDelay (p : Rp) (v : Word) : (s.setRp p v).irqDelay = s.irqDelay := by
  cases p <;> rfl
@[simp] theorem State.setRp_halted (p : Rp) (v : Word) : (s.setRp p v).halted = s.halted := by
  cases p <;> rfl
@[simp] theorem State.setRp_mem (p : Rp) (v : Word) : (s.setRp p v).mem = s.mem := by
  cases p <;> rfl
@[simp] theorem State.setRp_portIn (p : Rp) (v : Word) : (s.setRp p v).portIn = s.portIn := by
  cases p <;> rfl
@[simp] theorem State.setRp_freeCount (p : Rp) (v : Word) : (s.setRp p v).freeCount = s.freeCount := by
  cases p <;> rfl
@[simp] theorem State.setRp_env (p : Rp) (v : Word) : (s.setRp p v).env = s.env := by
  cases p <;> rfl
@[simp] theorem State.setRp_inside (p : Rp) (v : Word) : (s.setRp p v).inside = s.inside := by
  cases p <;> rfl
@[simp] theorem State.setRp_trace (p : Rp) (v : Word) : (s.setRp p v).trace = s.trace := by
  cases p <;> rfl
@[simp] theorem State.setRp_peek (p : Rp) (v : Word) (addr : Word) : (s.setRp p v).peek addr = s.peek addr := by
  cases p <;> rfl
@[simp] theorem State.setRp_bus (p : Rp) (v : Word) : (s.setRp p v).bus = s.bus := by
  cases p <;> rfl

/-! ### `setRp2` -/

@[simp] theorem State.setRp2_af' (p : Rp2) (v : Word) : (s.setRp2 p v).af' = s.af' := by
  cases p <;> rfl
@[simp] theorem State.setRp2_bc' (p : Rp2) (v : Word) : (s.setRp2 p v).bc' = s.bc' := by
  cases p <;> rfl
@[simp] theorem State.setRp2_de' (p : Rp2) (v : Word) : (s.setRp2 p v).de' = s.de' := by
  cases p <;> rfl
@[simp] theorem State.setRp2_hl' (p : Rp2) (v : Word) : (s.setRp2 p v).hl' = s.hl' := by
  cases p <;> rfl
@[simp] theorem State.setRp2_ix (p : Rp2) (v : Word) : (s.setRp2 p v).ix = s.ix := by
  cases p <;> rfl
@[simp] theorem State.setRp2_iy (p : Rp2) (v : Word) : (s.setRp2 p v).iy = s.iy := by
  cases p <;> rfl
@[simp] theorem State.setRp2_sp (p : Rp2) (v : Word) : (s.setRp2 p v).sp = s.sp := by
  cases p <;> rfl
@[simp] theorem State.setRp2_pc (p : Rp2) (v : Word) : (s.setRp2 p v).pc = s.pc := by
  cases p <;> rfl
@[simp] theorem State.setRp2_wz (p : Rp2) (v : Word) : (s.setRp2 p v).wz = s.wz := by
  cases p <;> rfl
@[simp] theorem State.setRp2_i (p : Rp2) (v : Word) : (s.setRp2 p v).i = s.i := by
  cases p <;> rfl
@[simp] theorem State.setRp2_r (p : Rp2) (v : Word) : (s.setRp2 p v).r = s.r := by
  cases p <;> rfl
@[simp] theorem State.setRp2_iff1 (p : Rp2) (v : Word) : (s.setRp2 p v).iff1 = s.iff1 := by
  cases p <;> rfl
@[simp] theorem State.setRp2_iff2 (p : Rp2) (v : Word) : (s.setRp2 p v).iff2 = s.iff2 := by
  cases p <;> rfl
@[simp] theorem State.setRp2_im (p : Rp2) (v : Word) : (s.setRp2 p v).im = s.im := by
  cases p <;> rfl
@[simp] theorem State.setRp2_req (p : Rp2) (v : Word) : (s.setRp2 p v).req = s.req := by
  cases p <;> rfl
@[simp] theorem State.setRp2_irqDelay (p : Rp2) (v : Word) : (s.setRp2 p v).irqDelay = s.irqDelay := by
  cases p <;> rfl
@[simp] theorem State.setRp2_halted (p : Rp2) (v : Word) : (s.setRp2 p v).halted = s.halted := by
  cases p <;> rfl
@[simp] theorem State.setRp2_mem (p : Rp2) (v : Word) : (s.setRp2 p v).mem = s.mem := by
  cases p <;> rfl
@[simp] theorem State.setRp2_portIn (p : Rp2) (v : Word) : (s.setRp2 p v).portIn = s.portIn := by
  cases p <;> rfl
@[simp] theorem State.setRp2_freeCount (p : Rp2) (v : Word) : (s.setRp2 p v).freeCount = s.freeCount := by
  cases p <;> rfl
@[simp] theorem State.setRp2_env (p : Rp2) (v : Word) : (s.setRp2 p v).env = s.env := by
  cases p <;> rfl
@[simp] theorem State.setRp2_inside (p : Rp2) (v : Word) : (s.setRp2 p v).inside = s.inside := by
  cases p <;> rfl
@[simp] theorem State.setRp2_trace (p : Rp2) (v : Word) : (s.setRp2 p v).trace = s.trace := by
  cases p <;> rfl
@[simp] theorem State.setRp2_peek (p : Rp2) (v : Word) (addr : Word) : (s.setRp2 p v).peek addr = s.peek addr := by
  cases p <;> rfl
@[simp] theorem State.setRp2_bus (p : Rp2) (v : Word) : (s.setRp2 p v).bus = s.bus := by
  cases p <;> rfl

/-! ### `setXy` -/

@[simp] theorem State.setXy_a (x : Idx) (v : Word) : (s.setXy x v).a = s.a := by
  cases x <;> rfl
@[simp] theorem State.setXy_f (x : Idx) (v : Word) : (s.setXy x v).f = s.f := by
  cases x <;> rfl
@[simp] theorem State.setXy_b (x : Idx) (v : Word) : (s.setXy x v).b = s.b := by
  cases x <;> rfl
@[simp] theorem State.setXy_c (x : Idx) (v : Word) : (s.setXy x v).c = s.c := by
  cases x <;> rfl
@[simp] theorem State.setXy_d (x : Idx) (v : Word) : (s.setXy x v).d = s.d := by
  cases x <;> rfl
@[simp] theorem State.setXy_e (x : Idx) (v : Word) : (s.setXy x v).e = s.e := by
  cases x <;> rfl
@[simp] theorem State.setXy_h (x : Idx) (v : Word) : (s.setXy x v).h = s.h := by
  cases x <;> rfl
@[simp] theorem State.setXy_l (x : Idx) (v : Word) : (s.setXy x v).l = s.l := by
  cases x <;> rfl
@[simp] theorem State.setXy_af' (x : Idx) (v : Word) : (s.setXy x v).af' = s.af' := by
  cases x <;> rfl
@[simp] theorem State.setXy_bc' (x : Idx) (v : Word) : (s.setXy x v).bc' = s.bc' := by
  cases x <;> rfl
@[simp] theorem State.setXy_de' (x : Idx) (v : Word) : (s.setXy x v).de' = s.de' := by
  cases x <;> rfl
@[simp] theorem State.setXy_hl' (x : Idx) (v : Word) : (s.setXy x v).hl' = s.hl' := by
  cases x <;> rfl
@[simp] theorem State.setXy_sp (x : Idx) (v : Word) : (s.setXy x v).sp = s.sp := by
  cases x <;> rfl
@[simp] theorem State.setXy_pc (x : Idx) (v : Word) : (s.setXy x v).pc = s.pc := by
  cases x <;> rfl
@[simp] theorem State.setXy_wz (x : Idx) (v : Word) : (s.setXy x v).wz = s.wz := by
  cases x <;> rfl
@[simp] theorem State.setXy_i (x : Idx) (v : Word) : (s.setXy x v).i = s.i := by
  cases x <;> rfl
@[simp] theorem State.setXy_r (x : Idx) (v : Word) : (s.setXy x v).r = s.r := by
  cases x <;> rfl
@[simp] theorem State.setXy_iff1 (x : Idx) (v : Word) : (s.setXy x v).iff1 = s.iff1 := by
  cases x <;> rfl
@[simp] theorem State.setXy_iff2 (x : Idx) (v : Word) : (s.setXy x v).iff2 = s.iff2 := by
  cases x <;> rfl
@[simp] theorem State.setXy_im (x : Idx) (v : Word) : (s.setXy x v).im = s.im := by
  cases x <;> rfl
@[simp] theorem State.setXy_req (x : Idx) (v : Word) : (s.setXy x v).req = s.req := by
  cases x <;> rfl
@[simp] theorem State.setXy_irqDelay (x : Idx) (v : Word) : (s.setXy x v).irqDelay = s.irqDelay := by
  cases x <;> rfl
@[simp] theorem State.setXy_halted (x : Idx) (v : Word) : (s.setXy x v).halted = s.halted := by
  cases x <;> rfl
@[simp] theorem State.setXy_mem (x : Idx) (v : Word) : (s.setXy x v).mem = s.mem := by
  cases x <;> rfl
@[simp] theorem State.setXy_portIn (x : Idx) (v : Word) : (s.setXy x v).portIn = s.portIn := by
  cases x <;> rfl
@[simp] theorem State.setXy_freeCount (x : Idx) (v : Word) : (s.setXy x v).freeCount = s.freeCount := by
  cases x <;> rfl
@[simp] theorem State.setXy_env (x : Idx) (v : Word) : (s.setXy x v).env = s.env := by
  cases x <;> rfl
@[simp] theorem State.setXy_inside (x : Idx) (v : Word) : (s.setXy x v).inside = s.inside := by
  cases x <;> rfl
@[simp] theorem State.setXy_trace (x : Idx) (v : Word) : (s.setXy x v).trace = s.trace := by
  cases x <;> rfl
@[simp] theorem State.setXy_peek (x : Idx) (v : Word) (addr : Word) : (s.setXy x v).peek addr = s.peek addr := by
  cases x <;> rfl
@[simp] theorem State.setXy_bus (x : Idx) (v : Word) : (s.setXy x v).bus = s.bus := by
  cases x <;> rfl

/-! ### `setHalf` -/

@[simp] theorem State.setHalf_a (x : Idx) (hf : Half) (v : Byte) : (s.setHalf x hf v).a = s.a := by
  cases x <;> cases hf <;> rfl
@[simp] theorem State.setHalf_f (x : Idx) (hf : Half) (v : Byte) : (s.setHalf x hf v).f = s.f := by
  cases x <;> cases hf <;> rfl
@[simp] theorem State.setHalf_b (x : Idx) (hf : Half) (v : Byte) : (s.setHalf x hf v).b = s.b := by
  cases x <;> cases hf <;> rfl
@[simp] theorem State.setHalf_c (x : Idx) (hf : Half) (v : Byte) : (s.setHalf x hf v).c = s.c := by
  cases x <;> cases hf <;> rfl
@[simp] theorem State.setHalf_d (x : Idx) (hf : Half) (v : Byte) : (s.setHalf x hf v).d = s.d := by
  cases x <;> cases hf <;> rfl
@[simp] theorem State.setHalf_e (x : Idx) (hf : Half) (v : Byte) : (s.setHalf x hf v).e = s.e := by
  cases x <;> cases hf <;> rfl
@[simp] theorem State.setHalf_h (x : Idx) (hf : Half) (v : Byte) : (s.setHalf x hf v).h = s.h := by
  cases x <;> cases hf <;> rfl
@[simp] theorem State.setHalf_l (x : Idx) (hf : Half) (v : Byte) : (s.setHalf x hf v).l = s.l := by
  cases x <;> cases hf <;> rfl
@[simp] theorem State.setHalf_af' (x : Idx) (hf : Half) (v : Byte) : (s.setHalf x hf v).af' = s.af' := by
  cases x <;> cases hf <;> rfl
@[simp] theorem State.setHalf_bc' (x : Idx) (hf : Half) (v : Byte) : (s.setHalf x hf v).bc' = s.bc' := by
  cases x <;> cases hf <;> rfl
@[simp] theorem State.setHalf_de' (x : Idx) (hf : Half) (v : Byte) : (s.setHalf x hf v).de' = s.de' := by
  cases x <;> cases hf <;> rfl
@[simp] theorem State.setHalf_hl' (x : Idx) (hf : Half) (v : Byte) : (s.setHalf x hf v).hl' = s.hl' := by
  cases x <;> cases hf <;> rfl
@[simp] theorem State.setHalf_sp (x : Idx) (hf : Half) (v : Byte) : (s.setHalf x hf v).sp = s.sp := by
  cases x <;> cases hf <;> rfl
@[simp] theorem State.setHalf_pc (x : Idx) (hf : Half) (v : Byte) : (s.setHalf x hf v).pc = s.pc := by
  cases x <;> cases hf <;> rfl
@[simp] theorem State.setHalf_wz (x : Idx) (hf : Half) (v : Byte) : (s.setHalf x hf v).wz = s.wz := by
  cases x <;> cases hf <;> rfl
@[simp] theorem State.setHalf_i (x : Idx) (hf : Half) (v : Byte) : (s.setHalf x hf v).i = s.i := by
  cases x <;> cases hf <;> rfl
@[simp] theorem State.setHalf_r (x : Idx) (hf : Half) (v : Byte) : (s.setHalf x hf v).r = s.r := by
  cases x <;> cases hf <;> rfl
@[simp] theorem State.setHalf_iff1 (x : Idx) (hf : Half) (v : Byte) : (s.setHalf x hf v).iff1 = s.iff1 := by
  cases x <;> cases hf <;> rfl
@[simp] theorem State.setHalf_iff2 (x : Idx) (hf : Half) (v : Byte) : (s.setHalf x hf v).iff2 = s.iff2 := by
  cases x <;> cases hf <;> rfl
@[simp] theorem State.setHalf_im (x : Idx) (hf : Half) (v : Byte) : (s.setHalf x hf v).im = s.im := by
  cases x <;> cases hf <;> rfl
@[simp] theorem State.setHalf_req (x : Idx) (hf : Half) (v : Byte) : (s.setHalf x hf v).req = s.req := by
  cases x <;> cases hf <;> rfl
@[simp] theorem State.setHalf_irqDelay (x : Idx) (hf : Half) (v : Byte) : (s.setHalf x hf v).irqDelay = s.irqDelay := by
  cases x <;> cases hf <;> rfl
@[simp] theorem State.setHalf_halted (x : Idx) (hf : Half) (v : Byte) : (s.setHalf x hf v).halted = s.halted := by
  cases x <;> cases hf <;> rfl
@[simp] theorem State.setHalf_mem (x : Idx) (hf : Half) (v : Byte) : (s.setHalf x hf v).mem = s.mem := by
  cases x <;> cases hf <;> rfl
@[simp] theorem State.setHalf_portIn (x : Idx) (hf : Half) (v : Byte) : (s.setHalf x hf v).portIn = s.portIn := by
  cases x <;> cases hf <;> rfl
@[simp] theorem State.setHalf_freeCount (x : Idx) (hf : Half) (v : Byte) : (s.setHalf x hf v).freeCount = s.freeCount := by
  cases x <;> cases hf <;> rfl
@[simp] theorem State.setHalf_env (x : Idx) (hf : Half) (v : Byte) : (s.setHalf x hf v).env = s.env := by
  cases x <;> cases hf <;> rfl
@[simp] theorem State.setHalf_inside (x : Idx) (hf : Half) (v : Byte) : (s.setHalf x hf v).inside = s.inside := by
  cases x <;> cases hf <;> rfl
@[simp] theorem State.setHalf_trace (x : Idx) (hf : Half) (v : Byte) : (s.setHalf x hf v).trace = s.trace := by
  cases x <;> cases hf <;> rfl
@[simp] theorem State.setHalf_peek (x : Idx) (hf : Half) (v : Byte) (addr : Word) : (s.setHalf x hf v).peek addr = s.peek addr := by
  cases x <;> cases hf <;> rfl
@[simp] theorem State.setHalf_bus (x : Idx) (hf : Half) (v : Byte) : (s.setHalf x hf v).bus = s.bus := by
  cases x <;> cases hf <;> rfl

/-! ### `setP8` -/

@[simp] theorem State.setP8_f (x : Idx) (p : Reg8X) (v : Byte) : (s.setP8 x p v).f = s.f := by
  cases p <;> cases x <;> rfl
@[simp] theorem State.setP8_h (x : Idx) (p : Reg8X) (v : Byte) : (s.setP8 x p v).h = s.h := by
  cases p <;> cases x <;> rfl
@[simp] theorem State.setP8_l (x : Idx) (p : Reg8X) (v : Byte) : (s.setP8 x p v).l = s.l := by
  cases p <;> cases x <;> rfl
@[simp] theorem State.setP8_af' (x : Idx) (p : Reg8X) (v : Byte) : (s.setP8 x p v).af' = s.af' := by
  cases p <;> cases x <;> rfl
@[simp] theorem State.setP8_bc' (x : Idx) (p : Reg8X) (v : Byte) : (s.setP8 x p v).bc' = s.bc' := by
  cases p <;> cases x <;> rfl
@[simp] theorem State.setP8_de' (x : Idx) (p : Reg8X) (v : Byte) : (s.setP8 x p v).de' = s.de' := by
  cases p <;> cases x <;> rfl
@[simp] theorem State.setP8_hl' (x : Idx) (p : Reg8X) (v : Byte) : (s.setP8 x p v).hl' = s.hl' := by
  cases p <;> cases x <;> rfl
@[simp] theorem State.setP8_sp (x : Idx) (p : Reg8X) (v : Byte) : (s.setP8 x p v).sp = s.sp := by
  cases p <;> cases x <;> rfl
@[simp] theorem State.setP8_pc (x : Idx) (p : Reg8X) (v : Byte) : (s.setP8 x p v).pc = s.pc := by
  cases p <;> cases x <;> rfl
@[simp] theorem State.setP8_wz (x : Idx) (p : Reg8X) (v : Byte) : (s.setP8 x p v).wz = s.wz := by
  cases p <;> cases x <;> rfl
@[simp] theorem State.setP8_i (x : Idx) (p : Reg8X) (v : Byte) : (s.setP8 x p v).i = s.i := by
  cases p <;> cases x <;> rfl
@[simp] theorem State.setP8_r (x : Idx) (p : Reg8X) (v : Byte) : (s.setP8 x p v).r = s.r := by
  cases p <;> cases x <;> rfl
@[simp] theorem State.setP8_iff1 (x : Idx) (p : Reg8X) (v : Byte) : (s.setP8 x p v).iff1 = s.iff1 := by
  cases p <;> cases x <;> rfl
@[simp] theorem State.setP8_iff2 (x : Idx) (p : Reg8X) (v : Byte) : (s.setP8 x p v).iff2 = s.iff2 := by
  cases p <;> cases x <;> rfl
@[simp] theorem State.setP8_im (x : Idx) (p : Reg8X) (v : Byte) : (s.setP8 x p v).im = s.im := by
  cases p <;> cases x <;> rfl
@[simp] theorem State.setP8_req (x : Idx) (p : Reg8X) (v : Byte) : (s.setP8 x p v).req = s.req := by
  cases p <;> cases x <;> rfl
@[simp] theorem State.setP8_irqDelay (x : Idx) (p : Reg8X) (v : Byte) : (s.setP8 x p v).irqDelay = s.irqDelay := by
  cases p <;> cases x <;> rfl
@[simp] theorem State.setP8_halted (x : Idx) (p : Reg8X) (v : Byte) : (s.setP8 x p v).halted = s.halted := by
  cases p <;> cases x <;> rfl
@[simp] theorem State.setP8_mem (x : Idx) (p : Reg8X) (v : Byte) : (s.setP8 x p v).mem = s.mem := by
  cases p <;> cases x <;> rfl
@[simp] theorem State.setP8_portIn (x : Idx) (p : Reg8X) (v : Byte) : (s.setP8 x p v).portIn = s.portIn := by
  cases p <;> cases x <;> rfl
@[simp] theorem State.setP8_freeCount (x : Idx) (p : Reg8X) (v : Byte) : (s.setP8 x p v).freeCount = s.freeCount := by
  cases p <;> cases x <;> rfl
@[simp] theorem State.setP8_env (x : Idx) (p : Reg8X) (v : Byte) : (s.setP8 x p v).env = s.env := by
  cases p <;> cases x <;> rfl
@[simp] theorem State.setP8_inside (x : Idx) (p : Reg8X) (v : Byte) : (s.setP8 x p v).inside = s.inside := by
  cases p <;> cases x <;> rfl
@[simp] theorem State.setP8_trace (x : Idx) (p : Reg8X) (v : Byte) : (s.setP8 x p v).trace = s.trace := by
  cases p <;> cases x <;> rfl
@[simp] theorem State.setP8_peek (x : Idx) (p : Reg8X) (v : Byte) (addr : Word) : (s.setP8 x p v).peek addr = s.peek addr := by
  cases p <;> cases x <;> rfl
@[simp] theorem State.setP8_bus (x : Idx) (p : Reg8X) (v : Byte) : (s.setP8 x p v).bus = s.bus := by
  cases p <;> cases x <;> rfl

/-! ## Reads of pairs and operands after updates of other state -/

@[simp] theorem State.af_setWz (v : Word) : (s.setWz v).af = s.af := rfl
@[simp] theorem State.af_setPc (v : Word) : (s.setPc v).af = s.af := rfl
@[simp] theorem State.af_tick (n : Nat) : (s.tick n).af = s.af := by
  simp [State.af]
@[simp] theorem State.af_emit (o : BusOp) : (s.emit o).af = s.af := rfl
@[simp] theorem State.af_memRead (addr : Word) : (s.memRead addr).2.af = s.af := by
  simp [State.af]
@[simp] theorem State.af_memWrite (addr : Word) (v : Byte) : (s.memWrite addr v).af = s.af := by
  simp [State.af]
@[simp] theorem State.bc_setWz (v : Word) : (s.setWz v).bc = s.bc := rfl
@[simp] theorem State.bc_setPc (v : Word) : (s.setPc v).bc = s.bc := rfl
@[simp] theorem State.bc_setF (v : Byte) : (s.setF v).bc = s.bc := rfl
@[simp] theorem State.bc_tick (n : Nat) : (s.tick n).bc = s.bc := by
  simp [State.bc]
@[simp] theorem State.bc_emit (o : BusOp) : (s.emit o).bc = s.bc := rfl
@[simp] theorem State.bc_memRead (addr : Word) : (s.memRead addr).2.bc = s.bc := by
  simp [State.bc]
@[simp] theorem State.bc_memWrite (addr : Word) (v : Byte) : (s.memWrite addr v).bc = s.bc := by
  simp [State.bc]
@[simp] theorem State.de_setWz (v : Word) : (s.setWz v).de = s.de := rfl
@[simp] theorem State.de_setPc (v : Word) : (s.setPc v).de = s.de := rfl
@[simp] theorem State.de_setF (v : Byte) : (s.setF v).de = s.de := rfl
@[simp] theorem State.de_tick (n : Nat) : (s.tick n).de = s.de := by
  simp [State.de]
@[simp] theorem State.de_emit (o : BusOp) : (s.emit o).de = s.de := rfl
@[simp] theorem State.de_memRead (addr : Word) : (s.memRead addr).2.de = s.de := by
  simp [State.de]
@[simp] theorem State.de_memWrite (addr : Word) (v : Byte) : (s.memWrite addr v).de = s.de := by
  simp [State.de]
@[simp] theorem State.hl_setWz (v : Word) : (s.setWz v).hl = s.hl := rfl
@[simp] theorem State.hl_setPc (v : Word) : (s.setPc v).hl = s.hl := rfl
@[simp] theorem State.hl_setF (v : Byte) : (s.setF v).hl = s.hl := rfl
@[simp] theorem State.hl_tick (n : Nat) : (s.tick n).hl = s.hl := by
  simp [State.hl]
@[simp] theorem State.hl_emit (o : BusOp) : (s.emit o).hl = s.hl := rfl
@[simp] theorem State.hl_memRead (addr : Word) : (s.memRead addr).2.hl = s.hl := by
  simp [State.hl]
@[simp] theorem State.hl_memWrite (addr : Word) (v : Byte) : (s.memWrite addr v).hl = s.hl := by
  simp [State.hl]
@[simp] theorem State.ir_setWz (v : Word) : (s.setWz v).ir = s.ir := rfl
@[simp] theorem State.ir_setPc (v : Word) : (s.setPc v).ir = s.ir := rfl
@[simp] theorem State.ir_setF (v : Byte) : (s.setF v).ir = s.ir := rfl
@[simp] theorem State.ir_tick (n : Nat) : (s.tick n).ir = s.ir := by
  simp [State.ir]
@[simp] theorem State.ir_emit (o : BusOp) : (s.emit o).ir = s.ir := rfl
@[simp] theorem State.ir_memRead (addr : Word) : (s.memRead addr).2.ir = s.ir := by
  simp [State.ir]
@[simp] theorem State.ir_memWrite (addr : Word) (v : Byte) : (s.memWrite addr v).ir = s.ir := by
  simp [State.ir]
@[simp] theorem State.r8_setWz (v : Word) (r : Reg8) : (s.setWz v).r8 r = s.r8 r := by
  cases r <;> rfl
@[simp] theorem State.r8_setPc (v : Word) (r : Reg8) : (s.setPc v).r8 r = s.r8 r := by
  cases r <;> rfl
@[simp] theorem State.r8_setF (v : Byte) (r : Reg8) : (s.setF v).r8 r = s.r8 r := by
  cases r <;> rfl
@[simp] theorem State.r8_tick (n : Nat) (r : Reg8) : (s.tick n).r8 r = s.r8 r := by
  cases r <;> simp [State.r8]
@[simp] theorem State.r8_emit (o : BusOp) (r : Reg8) : (s.emit o).r8 r = s.r8 r := by
  cases r <;> rfl
@[simp] theorem State.r8_memRead (addr : Word) (r : Reg8) : (s.memRead addr).2.r8 r = s.r8 r := by
  cases r <;> simp [State.r8]
@[simp] theorem State.r8_memWrite (addr : Word) (v : Byte) (r : Reg8) : (s.memWrite addr v).r8 r = s.r8 r := by
  cases r <;> simp [State.r8]
@[simp] theorem State.rp_setWz (v : Word) (p : Rp) : (s.setWz v).rp p = s.rp p := by
  cases p <;> rfl
@[simp] theorem State.rp_setPc (v : Word) (p : Rp) : (s.setPc v).rp p = s.rp p := by
  cases p <;> rfl
@[simp] theorem State.rp_setF (v : Byte) (p : Rp) : (s.setF v).rp p = s.rp p := by
  cases p <;> rfl
@[simp] theorem State.rp_tick (n : Nat) (p : Rp) : (s.tick n).rp p = s.rp p := by
  cases p <;> simp [State.bc, State.de, State.hl, State.rp]
@[simp] theorem State.rp_emit (o : BusOp) (p : Rp) : (s.emit o).rp p = s.rp p := by
  cases p <;> rfl
@[simp] theorem State.rp_memRead (addr : Word) (p : Rp) : (s.memRead addr).2.rp p = s.rp p := by
  cases p <;> simp [State.bc, State.de, State.hl, State.rp]
@[simp] theorem State.rp_memWrite (addr : Word) (v : Byte) (p : Rp) : (s.memWrite addr v).rp p = s.rp p := by
  cases p <;> simp [State.bc, State.de, State.hl, State.rp]
@[simp] theorem State.rp2_setWz (v : Word) (p : Rp2) : (s.setWz v).rp2 p = s.rp2 p := by
  cases p <;> rfl
@[simp] theorem State.rp2_setPc (v : Word) (p : Rp2) : (s.setPc v).rp2 p = s.rp2 p := by
  cases p <;> rfl
@[simp] theorem State.rp2_tick (n : Nat) (p : Rp2) : (s.tick n).rp2 p = s.rp2 p := by
  cases p <;> simp [State.bc, State.de, State.hl, State.af, State.rp2]
@[simp] theorem State.rp2_emit (o : BusOp) (p : Rp2) : (s.emit o).rp2 p = s.rp2 p := by
  cases p <;> rfl
@[simp] theorem State.rp2_memRead (addr : Word) (p : Rp2) : (s.memRead addr).2.rp2 p = s.rp2 p := by
  cases p <;> simp [State.bc, State.de, State.hl, State.af, State.rp2]
@[simp] theorem State.rp2_memWrite (addr : Word) (v : Byte) (p : Rp2) : (s.memWrite addr v).rp2 p = s.rp2 p := by
  cases p <;> simp [State.bc, State.de, State.hl, State.af, State.rp2]
@[simp] theorem State.xy_setWz (v : Word) (x : Idx) : (s.setWz v).xy x = s.xy x := by
  cases x <;> rfl
@[simp] theorem State.xy_setPc (v : Word) (x : Idx) : (s.setPc v).xy x = s.xy x := by
  cases x <;> rfl
@[simp] theorem State.xy_setF (v : Byte) (x : Idx) : (s.setF v).xy x = s.xy x := by
  cases x <;> rfl
@[simp] theorem State.xy_tick (n : Nat) (x : Idx) : (s.tick n).xy x = s.xy x := by
  cases x <;> simp [State.xy]
@[simp] theorem State.xy_emit (o : BusOp) (x : Idx) : (s.emit o).xy x = s.xy x := by
  cases x <;> rfl
@[simp] theorem State.xy_memRead (addr : Word) (x : Idx) : (s.memRead addr).2.xy x = s.xy x := by
  cases x <;> simp [State.xy]
@[simp] theorem State.xy_memWrite (addr : Word) (v : Byte) (x : Idx) : (s.memWrite addr v).xy x = s.xy x := by
  cases x <;> simp [State.xy]
@[simp] theorem State.half_setWz (v : Word) (x : Idx) (hf : Half) : (s.setWz v).half x hf = s.half x hf := by
  cases x <;> cases hf <;> rfl
@[simp] theorem State.half_setPc (v : Word) (x : Idx) (hf : Half) : (s.setPc v).half x hf = s.half x hf := by
  cases x <;> cases hf <;> rfl
@[simp] theorem State.half_setF (v : Byte) (x : Idx) (hf : Half) : (s.setF v).half x hf = s.half x hf := by
  cases x <;> cases hf <;> rfl
@[simp] theorem State.half_tick (n : Nat) (x : Idx) (hf : Half) : (s.tick n).half x hf = s.half x hf := by
  cases x <;> cases hf <;> simp [State.half, State.xy]
@[simp] theorem State.half_emit (o : BusOp) (x : Idx) (hf : Half) : (s.emit o).half x hf = s.half x hf := by
  cases x <;> cases hf <;> rfl
@[simp] theorem State.half_memRead (addr : Word) (x : Idx) (hf : Half) : (s.memRead addr).2.half x hf = s.half x hf := by
  cases x <;> cases hf <;> simp [State.half, State.xy]
@[simp] theorem State.half_memWrite (addr : Word) (v : Byte) (x : Idx) (hf : Half) : (s.memWrite addr v).half x hf = s.half x hf := by
  cases x <;> cases hf <;> simp [State.half, State.xy]
@[simp] theorem State.p8_setWz (v : Word) (x : Idx) (p : Reg8X) : (s.setWz v).p8 x p = s.p8 x p := by
  cases x <;> cases p <;> rfl
@[simp] theorem State.p8_setPc (v : Word) (x : Idx) (p : Reg8X) : (s.setPc v).p8 x p = s.p8 x p := by
  cases x <;> cases p <;> rfl
@[simp] theorem State.p8_setF (v : Byte) (x : Idx) (p : Reg8X) : (s.setF v).p8 x p = s.p8 x p := by
  cases x <;> cases p <;> rfl
@[simp] theorem State.p8_tick (n : Nat) (x : Idx) (p : Reg8X) : (s.tick n).p8 x p = s.p8 x p := by
  cases x <;> cases p <;> simp [State.p8, State.xy, State.half]
@[simp] theorem State.p8_emit (o : BusOp) (x : Idx) (p : Reg8X) : (s.emit o).p8 x p = s.p8 x p := by
  cases x <;> cases p <;> rfl
@[simp] theorem State.p8_memRead (addr : Word) (x : Idx) (p : Reg8X) : (s.memRead addr).2.p8 x p = s.p8 x p := by
  cases x <;> cases p <;> simp [State.p8, State.xy, State.half]
@[simp] theorem State.p8_memWrite (addr : Word) (v : Byte) (x : Idx) (p : Reg8X) : (s.memWrite addr v).p8 x p = s.p8 x p := by
  cases x <;> cases p <;> simp [State.p8, State.xy, State.half]
@[simp] theorem State.rpX_setWz (v : Word) (x : Idx) (p : RpX) : (s.setWz v).rpX x p = s.rpX x p := by
  cases x <;> cases p <;> rfl
@[simp] theorem State.rpX_setPc (v : Word) (x : Idx) (p : RpX) : (s.setPc v).rpX x p = s.rpX x p := by
  cases x <;> cases p <;> rfl
@[simp] theorem State.rpX_setF (v : Byte) (x : Idx) (p : RpX) : (s.setF v).rpX x p = s.rpX x p := by
  cases x <;> cases p <;> rfl
@[simp] theorem State.rpX_tick (n : Nat) (x : Idx) (p : RpX) : (s.tick n).rpX x p = s.rpX x p := by
  cases x <;> cases p <;> simp [State.bc, State.de, State.rpX, State.xy]
@[simp] theorem State.rpX_emit (o : BusOp) (x : Idx) (p : RpX) : (s.emit o).rpX x p = s.rpX x p := by
  cases x <;> cases p <;> rfl
@[simp] theorem State.rpX_memRead (addr : Word) (x : Idx) (p : RpX) : (s.memRead addr).2.rpX x p = s.rpX x p := by
  cases x <;> cases p <;> simp [State.bc, State.de, State.rpX, State.xy]
@[simp] theorem State.rpX_memWrite (addr : Word) (v : Byte) (x : Idx) (p : RpX) : (s.memWrite addr v).rpX x p = s.rpX x p := by
  cases x <;> cases p <;> simp [State.bc, State.de, State.rpX, State.xy]
@[simp] theorem State.xydAddr_setWz (v : Word) (x : Idx) (e : Byte) : (s.setWz v).xydAddr x e = s.xydAddr x e := by
  cases x <;> rfl
@[simp] theorem State.xydAddr_setPc (v : Word) (x : Idx) (e : Byte) : (s.setPc v).xydAddr x e = s.xydAddr x e := by
  cases x <;> rfl
@[simp] theorem State.xydAddr_setF (v : Byte) (x : Idx) (e : Byte) : (s.setF v).xydAddr x e = s.xydAddr x e := by
  cases x <;> rfl
@[simp] theorem State.xydAddr_tick (n : Nat) (x : Idx) (e : Byte) : (s.tick n).xydAddr x e = s.xydAddr x e := by
  cases x <;> simp [State.xydAddr, State.xy]
@[simp] theorem State.xydAddr_emit (o : BusOp) (x : Idx) (e : Byte) : (s.emit o).xydAddr x e = s.xydAddr x e := by
  cases x <;> rfl
@[simp] theorem State.xydAddr_memRead (addr : Word) (x : Idx) (e : Byte) : (s.memRead addr).2.xydAddr x e = s.xydAddr x e := by
  cases x <;> simp [State.xydAddr, State.xy]
@[simp] theorem State.xydAddr_memWrite (addr : Word) (v : Byte) (x : Idx) (e : Byte) : (s.memWrite addr v).xydAddr x e = s.xydAddr x e := by
  cases x <;> simp [State.xydAddr, State.xy]
@[simp] theorem State.cond_setWz (v : Word) (cc : Cond) : (s.setWz v).cond cc = s.cond cc := by
  cases cc <;> rfl
@[simp] theorem State.cond_setPc (v : Word) (cc : Cond) : (s.setPc v).cond cc = s.cond cc := by
  cases cc <;> rfl
@[simp] theorem State.cond_tick (n : Nat) (cc : Cond) : (s.tick n).cond cc = s.cond cc := by
  cases cc <;> simp [State.cond]
@[simp] theorem State.cond_emit (o : BusOp) (cc : Cond) : (s.emit o).cond cc = s.cond cc := by
  cases cc <;> rfl
@[simp] theorem State.cond_memRead (addr : Word) (cc : Cond) : (s.memRead addr).2.cond cc = s.cond cc := by
  cases cc <;> simp [State.cond]
@[simp] theorem State.cond_memWrite (addr : Word) (v : Byte) (cc : Cond) : (s.memWrite addr v).cond cc = s.cond cc := by
  cases cc <;> simp [State.cond]
@[simp] theorem State.condJr_setWz (v : Word) (cc : CondJr) : (s.setWz v).condJr cc = s.condJr cc := by
  cases cc <;> rfl
@[simp] theorem State.condJr_setPc (v : Word) (cc : CondJr) : (s.setPc v).condJr cc = s.condJr cc := by
  cases cc <;> rfl
@[simp] theorem State.condJr_tick (n : Nat) (cc : CondJr) : (s.tick n).condJr cc = s.condJr cc := by
  cases cc <;> simp [State.condJr]
@[simp] theorem State.condJr_emit (o : BusOp) (cc : CondJr) : (s.emit o).condJr cc = s.condJr cc := by
  cases cc <;> rfl
@[simp] theorem State.condJr_memRead (addr : Word) (cc : CondJr) : (s.memRead addr).2.condJr cc = s.condJr cc := by
  cases cc <;> simp [State.condJr]
@[simp] theorem State.condJr_memWrite (addr : Word) (v : Byte) (cc : CondJr) : (s.memWrite addr v).condJr cc = s.condJr cc := by
  cases cc <;> simp [State.condJr]

@[simp] theorem State.af_setAf (v : Word) : (s.setAf v).af = v := by
  simp [State.af]
@[simp] theorem State.af_setBc (v : Word) : (s.setBc v).af = s.af := by
  simp [State.af]
@[simp] theorem State.af_setDe (v : Word) : (s.setDe v).af = s.af := by
  simp [State.af]
@[simp] theorem State.af_setHl (v : Word) : (s.setHl v).af = s.af := by
  simp [State.af]
@[simp] theorem State.af_portAnswer : s.portAnswer.2.af = s.af := by
  simp [State.af]
@[simp] theorem State.bc_setAf (v : Word) : (s.setAf v).bc = s.bc := by
  simp [State.bc]
@[simp] theorem State.bc_setBc (v : Word) : (s.setBc v).bc = v := by
  simp [State.bc]
@[simp] theorem State.bc_setDe (v : Word) : (s.setDe v).bc = s.bc := by
  simp [State.bc]
@[simp] theorem State.bc_setHl (v : Word) : (s.setHl v).bc = s.bc := by
  simp [State.bc]
@[simp] theorem State.bc_portAnswer : s.portAnswer.2.bc = s.bc := by
  simp [State.bc]
@[simp] theorem State.de_setAf (v : Word) : (s.setAf v).de = s.de := by
  simp [State.de]
@[simp] theorem State.de_setBc (v : Word) : (s.setBc v).de = s.de := by
  simp [State.de]
@[simp] theorem State.de_setDe (v : Word) : (s.setDe v).de = v := by
  simp [State.de]
@[simp] theorem State.de_setHl (v : Word) : (s.setHl v).de = s.de := by
  simp [State.de]
@[simp] theorem State.de_portAnswer : s.portAnswer.2.de = s.de := by
  simp [State.de]
@[simp] theorem State.hl_setAf (v : Word) : (s.setAf v).hl = s.hl := by
  simp [State.hl]
@[simp] theorem State.hl_setBc (v : Word) : (s.setBc v).hl = s.hl := by
  simp [State.hl]
@[simp] theorem State.hl_setDe (v : Word) : (s.setDe v).hl = s.hl := by
  simp [State.hl]
@[simp] theorem State.hl_setHl (v : Word) : (s.setHl v).hl = v := by
  simp [State.hl]
@[simp] theorem State.hl_portAnswer : s.portAnswer.2.hl = s.hl := by
  simp [State.hl]

/-! ## Reads after writes -/

/-- A register reads as what was written to it; the others read as before. -/
theorem State.r8_setR8 (r r' : Reg8) (v : Byte) : (s.setR8 r v).r8 r' = if r' = r then v else s.r8 r' := by
  cases r <;> cases r' <;> rfl

/-- A pair reads as what was written to it; the others read as before. -/
theorem State.rp_setRp (p p' : Rp) (v : Word) : (s.setRp p v).rp p' = if p' = p then v else s.rp p' := by
  cases p <;> cases p' <;>
    simp [State.setRp, State.rp, State.bc, State.de, State.hl]

/-- The same for the pairs of PUSH and POP. -/
theorem State.rp2_setRp2 (p p' : Rp2) (v : Word) :
    (s.setRp2 p v).rp2 p' = if p' = p then v else s.rp2 p' := by
  cases p <;> cases p' <;>
    simp [State.setRp2, State.rp2, State.bc, State.de, State.hl, State.af]

/-- The same for the index registers. -/
theorem State.xy_setXy (x x' : Idx) (v : Word) : (s.setXy x v).xy x' = if x' = x then v else s.xy x' := by
  cases x <;> cases x' <;> rfl

/-- A half reads as what was written to it; the other half, and the other index register, read as before. -/
theorem State.half_setHalf (x x' : Idx) (hf hf' : Half) (v : Byte) :
    (s.setHalf x hf v).half x' hf' = if x' = x ∧ hf' = hf then v else s.half x' hf' := by
  cases x <;> cases x' <;> cases hf <;> cases hf' <;>
    simp [State.setHalf, State.half, State.setXy, State.xy]

/-! ## The indexed address -/

theorem State.idx_value (x : Idx) (d : Byte) : (s.idx x d).1 = s.xydAddr x d := rfl

theorem State.idx_state (x : Idx) (d : Byte) : (s.idx x d).2 = s.setWz (s.xydAddr x d) := rfl

/-! ## Memory operands -/

/-- A read operand: the continuation runs on the byte the bus answered, after one read. -/
theorem State.useByte_eq (addr : Word) (k : Byte → State → State) :
    s.useByte addr k = k (s.memRead addr).1 (s.memRead addr).2 := rfl

/-- A modified operand: the byte written is what the continuation gives, at the address read. -/
theorem State.modifyByte_eq (addr : Word) (k : Byte → State → Byte × State) :
    s.modifyByte addr k =
      ((k (s.memRead addr).1 (s.memRead addr).2).2.tick 1).memWrite addr
        (k (s.memRead addr).1 (s.memRead addr).2).1 := rfl

/-- A modified operand with a register copy. -/
theorem State.modifyByteCopy_eq (addr : Word) (k : Byte → State → Byte × State) (r : Reg8) :
    s.modifyByteCopy addr k r =
      (s.modifyByte addr k).setR8 r (k (s.memRead addr).1 (s.memRead addr).2).1 := rfl

/-- A modified operand keeps the canonical form when its continuation leaves memory alone. -/
theorem State.modifyByte_canonical (addr : Word) (k : Byte → State → Byte × State)
    (hk : ∀ v t, (k v t).2.mem = t.mem) (h : s.Canonical) : (s.modifyByte addr k).Canonical := by
  rw [State.modifyByte_eq]
  exact State.memWrite_canonical _ _ _ (State.tick_canonical _ _
    (State.canonical_congr (hk _ _) (State.memRead_canonical s addr h)))

/-- What every byte reads as after a modified operand, in a quiet environment. -/
theorem State.modifyByte_peek (addr : Word) (k : Byte → State → Byte × State)
    (hk : ∀ v t, (k v t).2.mem = t.mem) (hi : ∀ v t, (k v t).2.inside = t.inside) (hq : s.inside = [])
    (h : s.Canonical) (a : Word) :
    (s.modifyByte addr k).peek a = s.poked addr (k (s.peek addr) (s.memRead addr).2).1 a := by
  have hr : (s.memRead addr).2.mem = s.mem ∧ (s.memRead addr).2.inside = [] ∧
      (s.memRead addr).1 = s.peek addr := by simp [State.memRead_quiet, hq]
  rw [State.modifyByte_eq, hr.2.2]
  generalize hu : k (s.peek addr) (s.memRead addr).2 = u
  have hm : u.2.mem = s.mem := by rw [← hu, hk, hr.1]
  have hi' : u.2.inside = [] := by rw [← hu, hi, hr.2.1]
  have he : (u.2.emit (.tick 1)).inside = [] := hi'
  rw [State.tick_quiet _ _ hi', State.memWrite_peek _ _ _ he (State.canonical_congr hm h), State.poked,
    State.poked, State.peek_emit, State.peek_congr hm]

/-! ## The repeat of a block instruction -/

theorem State.repeatBlock_core : SameCore s.repeatBlock (s.setPc (s.pc - 2#16)) := by
  simp [sameCore_iff, State.repeatBlock]

theorem State.repeatBlock_quiet (h : s.inside = []) :
    s.repeatBlock = (s.emit (.tick 5)).setPc (s.pc - 2#16) := by
  rw [State.repeatBlock, State.tick_quiet _ _ h]

end Sys2Proof.Machine
end

