-- ==== Sys2Proof/Laws/PerInstr.lean ====
section
/-! SUPPORT. Statements made for every instruction, one lemma per constructor of Instr. -/

/-! ## `Length`: an encoding has as many bytes as its format (30_encoding.md R90) -/

namespace Sys2Proof.Laws.Length

/-- The number of bytes of an instruction's encoding is its format's length. -/
def Statement (i : Sys2Proof.Instr) : Prop := (Sys2Proof.encode i).length = i.format.len

theorem nop : Statement (.nop) := rfl
theorem exAfAf : Statement (.exAfAf) := rfl
theorem djnz (e : Sys2Proof.Byte) : Statement (.djnz e) := rfl
theorem jr (e : Sys2Proof.Byte) : Statement (.jr e) := rfl
theorem jrCc (cc : Sys2Proof.CondJr) (e : Sys2Proof.Byte) : Statement (.jrCc cc e) := rfl
theorem ldDdNn (dd : Sys2Proof.Rp) (nn : Sys2Proof.Word) : Statement (.ldDdNn dd nn) := rfl
theorem addHlSs (ss : Sys2Proof.Rp) : Statement (.addHlSs ss) := rfl
theorem ldAtBcA : Statement (.ldAtBcA) := rfl
theorem ldAtDeA : Statement (.ldAtDeA) := rfl
theorem ldAtNnHl (nn : Sys2Proof.Word) : Statement (.ldAtNnHl nn) := rfl
theorem ldAtNnA (nn : Sys2Proof.Word) : Statement (.ldAtNnA nn) := rfl
theorem ldAAtBc : Statement (.ldAAtBc) := rfl
theorem ldAAtDe : Statement (.ldAAtDe) := rfl
theorem ldHlAtNn (nn : Sys2Proof.Word) : Statement (.ldHlAtNn nn) := rfl
theorem ldAAtNn (nn : Sys2Proof.Word) : Statement (.ldAAtNn nn) := rfl
theorem incSs (ss : Sys2Proof.Rp) : Statement (.incSs ss) := rfl
theorem decSs (ss : Sys2Proof.Rp) : Statement (.decSs ss) := rfl
theorem incR (r : Sys2Proof.Reg8) : Statement (.incR r) := rfl
theorem incAtHl : Statement (.incAtHl) := rfl
theorem decR (r : Sys2Proof.Reg8) : Statement (.decR r) := rfl
theorem decAtHl : Statement (.decAtHl) := rfl
theorem ldRN (r : Sys2Proof.Reg8) (n : Sys2Proof.Byte) : Statement (.ldRN r n) := rfl
theorem ldAtHlN (n : Sys2Proof.Byte) : Statement (.ldAtHlN n) := rfl
theorem rlca : Statement (.rlca) := rfl
theorem rrca : Statement (.rrca) := rfl
theorem rla : Statement (.rla) := rfl
theorem rra : Statement (.rra) := rfl
theorem daa : Statement (.daa) := rfl
theorem cpl : Statement (.cpl) := rfl
theorem scf : Statement (.scf) := rfl
theorem ccf : Statement (.ccf) := rfl
theorem halt : Statement (.halt) := rfl
theorem ldRR (r : Sys2Proof.Reg8) (r' : Sys2Proof.Reg8) : Statement (.ldRR r r') := rfl
theorem ldRAtHl (r : Sys2Proof.Reg8) : Statement (.ldRAtHl r) := rfl
theorem ldAtHlR (r : Sys2Proof.Reg8) : Statement (.ldAtHlR r) := rfl
theorem addAR (r : Sys2Proof.Reg8) : Statement (.addAR r) := rfl
theorem addAAtHl : Statement (.addAAtHl) := rfl
theorem addAN (n : Sys2Proof.Byte) : Statement (.addAN n) := rfl
theorem adcAR (r : Sys2Proof.Reg8) : Statement (.adcAR r) := rfl
theorem adcAAtHl : Statement (.adcAAtHl) := rfl
theorem adcAN (n : Sys2Proof.Byte) : Statement (.adcAN n) := rfl
theorem subR (r : Sys2Proof.Reg8) : Statement (.subR r) := rfl
theorem subAtHl : Statement (.subAtHl) := rfl
theorem subN (n : Sys2Proof.Byte) : Statement (.subN n) := rfl
theorem sbcAR (r : Sys2Proof.Reg8) : Statement (.sbcAR r) := rfl
theorem sbcAAtHl : Statement (.sbcAAtHl) := rfl
theorem sbcAN (n : Sys2Proof.Byte) : Statement (.sbcAN n) := rfl
theorem andR (r : Sys2Proof.Reg8) : Statement (.andR r) := rfl
theorem andAtHl : Statement (.andAtHl) := rfl
theorem andN (n : Sys2Proof.Byte) : Statement (.andN n) := rfl
theorem xorR (r : Sys2Proof.Reg8) : Statement (.xorR r) := rfl
theorem xorAtHl : Statement (.xorAtHl) := rfl
theorem xorN (n : Sys2Proof.Byte) : Statement (.xorN n) := rfl
theorem orR (r : Sys2Proof.Reg8) : Statement (.orR r) := rfl
theorem orAtHl : Statement (.orAtHl) := rfl
theorem orN (n : Sys2Proof.Byte) : Statement (.orN n) := rfl
theorem cpR (r : Sys2Proof.Reg8) : Statement (.cpR r) := rfl
theorem cpAtHl : Statement (.cpAtHl) := rfl
theorem cpN (n : Sys2Proof.Byte) : Statement (.cpN n) := rfl
theorem retCc (cc : Sys2Proof.Cond) : Statement (.retCc cc) := rfl
theorem popQq (qq : Sys2Proof.Rp2) : Statement (.popQq qq) := rfl
theorem ret : Statement (.ret) := rfl
theorem exx : Statement (.exx) := rfl
theorem jpHl : Statement (.jpHl) := rfl
theorem ldSpHl : Statement (.ldSpHl) := rfl
theorem jpCcNn (cc : Sys2Proof.Cond) (nn : Sys2Proof.Word) : Statement (.jpCcNn cc nn) := rfl
theorem jpNn (nn : Sys2Proof.Word) : Statement (.jpNn nn) := rfl
theorem outNA (n : Sys2Proof.Byte) : Statement (.outNA n) := rfl
theorem inAN (n : Sys2Proof.Byte) : Statement (.inAN n) := rfl
theorem exAtSpHl : Statement (.exAtSpHl) := rfl
theorem exDeHl : Statement (.exDeHl) := rfl
theorem di : Statement (.di) := rfl
theorem ei : Statement (.ei) := rfl
theorem callCcNn (cc : Sys2Proof.Cond) (nn : Sys2Proof.Word) : Statement (.callCcNn cc nn) := rfl
theorem pushQq (qq : Sys2Proof.Rp2) : Statement (.pushQq qq) := rfl
theorem callNn (nn : Sys2Proof.Word) : Statement (.callNn nn) := rfl
theorem rstP (t : BitVec 3) : Statement (.rstP t) := rfl
theorem rlcR (r : Sys2Proof.Reg8) : Statement (.rlcR r) := rfl
theorem rlcAtHl : Statement (.rlcAtHl) := rfl
theorem rrcR (r : Sys2Proof.Reg8) : Statement (.rrcR r) := rfl
theorem rrcAtHl : Statement (.rrcAtHl) := rfl
theorem rlR (r : Sys2Proof.Reg8) : Statement (.rlR r) := rfl
theorem rlAtHl : Statement (.rlAtHl) := rfl
theorem rrR (r : Sys2Proof.Reg8) : Statement (.rrR r) := rfl
theorem rrAtHl : Statement (.rrAtHl) := rfl
theorem slaR (r : Sys2Proof.Reg8) : Statement (.slaR r) := rfl
theorem slaAtHl : Statement (.slaAtHl) := rfl
theorem sraR (r : Sys2Proof.Reg8) : Statement (.sraR r) := rfl
theorem sraAtHl : Statement (.sraAtHl) := rfl
theorem sllR (r : Sys2Proof.Reg8) : Statement (.sllR r) := rfl
theorem sllAtHl : Statement (.sllAtHl) := rfl
theorem srlR (r : Sys2Proof.Reg8) : Statement (.srlR r) := rfl
theorem srlAtHl : Statement (.srlAtHl) := rfl
theorem bitBR (b : Sys2Proof.BitNo) (r : Sys2Proof.Reg8) : Statement (.bitBR b r) := rfl
theorem bitBAtHl (b : Sys2Proof.BitNo) : Statement (.bitBAtHl b) := rfl
theorem resBR (b : Sys2Proof.BitNo) (r : Sys2Proof.Reg8) : Statement (.resBR b r) := rfl
theorem resBAtHl (b : Sys2Proof.BitNo) : Statement (.resBAtHl b) := rfl
theorem setBR (b : Sys2Proof.BitNo) (r : Sys2Proof.Reg8) : Statement (.setBR b r) := rfl
theorem setBAtHl (b : Sys2Proof.BitNo) : Statement (.setBAtHl b) := rfl
theorem inRC (r : Sys2Proof.Reg8) : Statement (.inRC r) := rfl
theorem inFC : Statement (.inFC) := rfl
theorem outCR (r : Sys2Proof.Reg8) : Statement (.outCR r) := rfl
theorem outC0 : Statement (.outC0) := rfl
theorem sbcHlSs (ss : Sys2Proof.Rp) : Statement (.sbcHlSs ss) := rfl
theorem adcHlSs (ss : Sys2Proof.Rp) : Statement (.adcHlSs ss) := rfl
theorem ldAtNnDd (nn : Sys2Proof.Word) (dd : Sys2Proof.Rp) : Statement (.ldAtNnDd nn dd) := rfl
theorem ldDdAtNn (dd : Sys2Proof.Rp) (nn : Sys2Proof.Word) : Statement (.ldDdAtNn dd nn) := rfl
theorem neg : Statement (.neg) := rfl
theorem negY (y : BitVec 3) : Statement (.negY y) := rfl
theorem retn : Statement (.retn) := rfl
theorem reti : Statement (.reti) := rfl
theorem retnY (y : BitVec 3) : Statement (.retnY y) := rfl
theorem im0 : Statement (.im0) := rfl
theorem im1 : Statement (.im1) := rfl
theorem im2 : Statement (.im2) := rfl
theorem imY (y : BitVec 3) : Statement (.imY y) := rfl
theorem ldIA : Statement (.ldIA) := rfl
theorem ldRA : Statement (.ldRA) := rfl
theorem ldAI : Statement (.ldAI) := rfl
theorem ldAR : Statement (.ldAR) := rfl
theorem rrd : Statement (.rrd) := rfl
theorem rld : Statement (.rld) := rfl
theorem nopEd (q : BitVec 1) : Statement (.nopEd q) := rfl
theorem ldi : Statement (.ldi) := rfl
theorem ldd : Statement (.ldd) := rfl
theorem ldir : Statement (.ldir) := rfl
theorem lddr : Statement (.lddr) := rfl
theorem cpi : Statement (.cpi) := rfl
theorem cpd : Statement (.cpd) := rfl
theorem cpir : Statement (.cpir) := rfl
theorem cpdr : Statement (.cpdr) := rfl
theorem ini : Statement (.ini) := rfl
theorem ind : Statement (.ind) := rfl
theorem inir : Statement (.inir) := rfl
theorem indr : Statement (.indr) := rfl
theorem outi : Statement (.outi) := rfl
theorem outd : Statement (.outd) := rfl
theorem otir : Statement (.otir) := rfl
theorem otdr : Statement (.otdr) := rfl
theorem addXyPp (x : Sys2Proof.Idx) (pp : Sys2Proof.RpX) : Statement (.addXyPp x pp) := rfl
theorem ldXyNn (x : Sys2Proof.Idx) (nn : Sys2Proof.Word) : Statement (.ldXyNn x nn) := rfl
theorem ldAtNnXy (nn : Sys2Proof.Word) (x : Sys2Proof.Idx) : Statement (.ldAtNnXy nn x) := rfl
theorem incXy (x : Sys2Proof.Idx) : Statement (.incXy x) := rfl
theorem decXy (x : Sys2Proof.Idx) : Statement (.decXy x) := rfl
theorem ldXyAtNn (x : Sys2Proof.Idx) (nn : Sys2Proof.Word) : Statement (.ldXyAtNn x nn) := rfl
theorem incXyh (x : Sys2Proof.Idx) : Statement (.incXyh x) := rfl
theorem decXyh (x : Sys2Proof.Idx) : Statement (.decXyh x) := rfl
theorem incXyl (x : Sys2Proof.Idx) : Statement (.incXyl x) := rfl
theorem decXyl (x : Sys2Proof.Idx) : Statement (.decXyl x) := rfl
theorem ldXyhN (x : Sys2Proof.Idx) (n : Sys2Proof.Byte) : Statement (.ldXyhN x n) := rfl
theorem ldXylN (x : Sys2Proof.Idx) (n : Sys2Proof.Byte) : Statement (.ldXylN x n) := rfl
theorem incAtXyd (x : Sys2Proof.Idx) (d : Sys2Proof.Byte) : Statement (.incAtXyd x d) := rfl
theorem decAtXyd (x : Sys2Proof.Idx) (d : Sys2Proof.Byte) : Statement (.decAtXyd x d) := rfl
theorem ldAtXydN (x : Sys2Proof.Idx) (d : Sys2Proof.Byte) (n : Sys2Proof.Byte) : Statement (.ldAtXydN x d n) := rfl
theorem ldRAtXyd (r : Sys2Proof.Reg8) (x : Sys2Proof.Idx) (d : Sys2Proof.Byte) : Statement (.ldRAtXyd r x d) := rfl
theorem ldAtXydR (x : Sys2Proof.Idx) (d : Sys2Proof.Byte) (r : Sys2Proof.Reg8) : Statement (.ldAtXydR x d r) := rfl
theorem ldHalfP (x : Sys2Proof.Idx) (hf : Sys2Proof.Half) (p : Sys2Proof.Reg8X) : Statement (.ldHalfP x hf p) := rfl
theorem ldPHalf (x : Sys2Proof.Idx) (p : Sys2Proof.Reg8X) (hf : Sys2Proof.Half) : Statement (.ldPHalf x p hf) := rfl
theorem addAAtXyd (x : Sys2Proof.Idx) (d : Sys2Proof.Byte) : Statement (.addAAtXyd x d) := rfl
theorem addAHalf (x : Sys2Proof.Idx) (hf : Sys2Proof.Half) : Statement (.addAHalf x hf) := rfl
theorem adcAAtXyd (x : Sys2Proof.Idx) (d : Sys2Proof.Byte) : Statement (.adcAAtXyd x d) := rfl
theorem adcAHalf (x : Sys2Proof.Idx) (hf : Sys2Proof.Half) : Statement (.adcAHalf x hf) := rfl
theorem subAtXyd (x : Sys2Proof.Idx) (d : Sys2Proof.Byte) : Statement (.subAtXyd x d) := rfl
theorem subHalf (x : Sys2Proof.Idx) (hf : Sys2Proof.Half) : Statement (.subHalf x hf) := rfl
theorem sbcAAtXyd (x : Sys2Proof.Idx) (d : Sys2Proof.Byte) : Statement (.sbcAAtXyd x d) := rfl
theorem sbcAHalf (x : Sys2Proof.Idx) (hf : Sys2Proof.Half) : Statement (.sbcAHalf x hf) := rfl
theorem andAtXyd (x : Sys2Proof.Idx) (d : Sys2Proof.Byte) : Statement (.andAtXyd x d) := rfl
theorem andHalf (x : Sys2Proof.Idx) (hf : Sys2Proof.Half) : Statement (.andHalf x hf) := rfl
theorem xorAtXyd (x : Sys2Proof.Idx) (d : Sys2Proof.Byte) : Statement (.xorAtXyd x d) := rfl
theorem xorHalf (x : Sys2Proof.Idx) (hf : Sys2Proof.Half) : Statement (.xorHalf x hf) := rfl
theorem orAtXyd (x : Sys2Proof.Idx) (d : Sys2Proof.Byte) : Statement (.orAtXyd x d) := rfl
theorem orHalf (x : Sys2Proof.Idx) (hf : Sys2Proof.Half) : Statement (.orHalf x hf) := rfl
theorem cpAtXyd (x : Sys2Proof.Idx) (d : Sys2Proof.Byte) : Statement (.cpAtXyd x d) := rfl
theorem cpHalf (x : Sys2Proof.Idx) (hf : Sys2Proof.Half) : Statement (.cpHalf x hf) := rfl
theorem popXy (x : Sys2Proof.Idx) : Statement (.popXy x) := rfl
theorem exAtSpXy (x : Sys2Proof.Idx) : Statement (.exAtSpXy x) := rfl
theorem pushXy (x : Sys2Proof.Idx) : Statement (.pushXy x) := rfl
theorem jpXy (x : Sys2Proof.Idx) : Statement (.jpXy x) := rfl
theorem ldSpXy (x : Sys2Proof.Idx) : Statement (.ldSpXy x) := rfl
theorem rlcAtXyd (x : Sys2Proof.Idx) (d : Sys2Proof.Byte) : Statement (.rlcAtXyd x d) := rfl
theorem rlcAtXydR (x : Sys2Proof.Idx) (d : Sys2Proof.Byte) (r : Sys2Proof.Reg8) : Statement (.rlcAtXydR x d r) := rfl
theorem rrcAtXyd (x : Sys2Proof.Idx) (d : Sys2Proof.Byte) : Statement (.rrcAtXyd x d) := rfl
theorem rrcAtXydR (x : Sys2Proof.Idx) (d : Sys2Proof.Byte) (r : Sys2Proof.Reg8) : Statement (.rrcAtXydR x d r) := rfl
theorem rlAtXyd (x : Sys2Proof.Idx) (d : Sys2Proof.Byte) : Statement (.rlAtXyd x d) := rfl
theorem rlAtXydR (x : Sys2Proof.Idx) (d : Sys2Proof.Byte) (r : Sys2Proof.Reg8) : Statement (.rlAtXydR x d r) := rfl
theorem rrAtXyd (x : Sys2Proof.Idx) (d : Sys2Proof.Byte) : Statement (.rrAtXyd x d) := rfl
theorem rrAtXydR (x : Sys2Proof.Idx) (d : Sys2Proof.Byte) (r : Sys2Proof.Reg8) : Statement (.rrAtXydR x d r) := rfl
theorem slaAtXyd (x : Sys2Proof.Idx) (d : Sys2Proof.Byte) : Statement (.slaAtXyd x d) := rfl
theorem slaAtXydR (x : Sys2Proof.Idx) (d : Sys2Proof.Byte) (r : Sys2Proof.Reg8) : Statement (.slaAtXydR x d r) := rfl
theorem sraAtXyd (x : Sys2Proof.Idx) (d : Sys2Proof.Byte) : Statement (.sraAtXyd x d) := rfl
theorem sraAtXydR (x : Sys2Proof.Idx) (d : Sys2Proof.Byte) (r : Sys2Proof.Reg8) : Statement (.sraAtXydR x d r) := rfl
theorem sllAtXyd (x : Sys2Proof.Idx) (d : Sys2Proof.Byte) : Statement (.sllAtXyd x d) := rfl
theorem sllAtXydR (x : Sys2Proof.Idx) (d : Sys2Proof.Byte) (r : Sys2Proof.Reg8) : Statement (.sllAtXydR x d r) := rfl
theorem srlAtXyd (x : Sys2Proof.Idx) (d : Sys2Proof.Byte) : Statement (.srlAtXyd x d) := rfl
theorem srlAtXydR (x : Sys2Proof.Idx) (d : Sys2Proof.Byte) (r : Sys2Proof.Reg8) : Statement (.srlAtXydR x d r) := rfl
theorem bitBAtXyd (b : Sys2Proof.BitNo) (x : Sys2Proof.Idx) (d : Sys2Proof.Byte) : Statement (.bitBAtXyd b x d) := rfl
theorem bitBAtXydZ (b : Sys2Proof.BitNo) (x : Sys2Proof.Idx) (d : Sys2Proof.Byte) (z : BitVec 3) : Statement (.bitBAtXydZ b x d z) := rfl
theorem resBAtXyd (b : Sys2Proof.BitNo) (x : Sys2Proof.Idx) (d : Sys2Proof.Byte) : Statement (.resBAtXyd b x d) := rfl
theorem resBAtXydR (b : Sys2Proof.BitNo) (x : Sys2Proof.Idx) (d : Sys2Proof.Byte) (r : Sys2Proof.Reg8) : Statement (.resBAtXydR b x d r) := rfl
theorem setBAtXyd (b : Sys2Proof.BitNo) (x : Sys2Proof.Idx) (d : Sys2Proof.Byte) : Statement (.setBAtXyd b x d) := rfl
theorem setBAtXydR (b : Sys2Proof.BitNo) (x : Sys2Proof.Idx) (d : Sys2Proof.Byte) (r : Sys2Proof.Reg8) : Statement (.setBAtXydR b x d r) := rfl

end Sys2Proof.Laws.Length
end

