-- ==== Sys2Proof/Tests/Slice0.lean ====
section
/-! SUPPORT. The model's own tests. The words are the encodings of spec/opcode_table.json and 30_encoding.md
written out byte by byte, the last byte first; the one-step tests are the vectors of 95_test_vectors.md section
2, named by their numbers; the witnesses are states and operands that meet the hypotheses of the statements. -/

namespace Sys2Proof.Tests

open Sys2Proof.Machine

/-! ## Well-formedness: one ill-formed term for each check (WellFormed.lean), and its neighbours -/

theorem test_wf_neg : Instr.wellFormed (.negY 0#3) = false ∧ Instr.wellFormed (.negY 1#3) = true := by decide
theorem test_wf_retn : Instr.wellFormed (.retnY 0#3) = false ∧ Instr.wellFormed (.retnY 1#3) = false ∧
    Instr.wellFormed (.retnY 2#3) = true := by decide
theorem test_wf_im : Instr.wellFormed (.imY 0#3) = false ∧ Instr.wellFormed (.imY 2#3) = false ∧
    Instr.wellFormed (.imY 3#3) = false ∧ Instr.wellFormed (.imY 1#3) = true := by decide
theorem test_wf_ldPHalf : Instr.wellFormed (.ldPHalf .ix .xh .low) = false ∧
    Instr.wellFormed (.ldPHalf .iy .xl .high) = false ∧ Instr.wellFormed (.ldPHalf .ix .e .low) = true := by decide
theorem test_wf_bit : Instr.wellFormed (.bitBAtXydZ 0#3 .ix 0#8 6#3) = false ∧
    Instr.wellFormed (.bitBAtXydZ 0#3 .ix 0#8 7#3) = true := by decide

/-! ## Decoding: every constructor, one word each -/

theorem test_decode_M1 :
    decodeTableWord 8 0b00000000 = some .nop ∧
    decodeTableWord 8 0b00001000 = some .exAfAf ∧
    decodeTableWord 8 0b00011001 = some (.addHlSs .de) ∧
    decodeTableWord 8 0b00000010 = some .ldAtBcA ∧
    decodeTableWord 8 0b00010010 = some .ldAtDeA ∧
    decodeTableWord 8 0b00001010 = some .ldAAtBc ∧
    decodeTableWord 8 0b00011010 = some .ldAAtDe ∧
    decodeTableWord 8 0b00000011 = some (.incSs .bc) := by decide

theorem test_decode_M2 :
    decodeTableWord 8 0b00111011 = some (.decSs .sp) ∧
    decodeTableWord 8 0b00011100 = some (.incR .e) ∧
    decodeTableWord 8 0b00110100 = some .incAtHl ∧
    decodeTableWord 8 0b00011101 = some (.decR .e) ∧
    decodeTableWord 8 0b00110101 = some .decAtHl ∧
    decodeTableWord 8 0b00000111 = some .rlca ∧
    decodeTableWord 8 0b00001111 = some .rrca ∧
    decodeTableWord 8 0b00010111 = some .rla := by decide

theorem test_decode_M3 :
    decodeTableWord 8 0b00011111 = some .rra ∧
    decodeTableWord 8 0b00100111 = some .daa ∧
    decodeTableWord 8 0b00101111 = some .cpl ∧
    decodeTableWord 8 0b00110111 = some .scf ∧
    decodeTableWord 8 0b00111111 = some .ccf ∧
    decodeTableWord 8 0b01110110 = some .halt ∧
    decodeTableWord 8 0b01011011 = some (.ldRR .e .e) ∧
    decodeTableWord 8 0b01011110 = some (.ldRAtHl .e) := by decide

theorem test_decode_M4 :
    decodeTableWord 8 0b01110011 = some (.ldAtHlR .e) ∧
    decodeTableWord 8 0b10000011 = some (.addAR .e) ∧
    decodeTableWord 8 0b10000110 = some .addAAtHl ∧
    decodeTableWord 8 0b10001011 = some (.adcAR .e) ∧
    decodeTableWord 8 0b10001110 = some .adcAAtHl ∧
    decodeTableWord 8 0b10010011 = some (.subR .e) ∧
    decodeTableWord 8 0b10010110 = some .subAtHl ∧
    decodeTableWord 8 0b10011011 = some (.sbcAR .e) := by decide

theorem test_decode_M5 :
    decodeTableWord 8 0b10011110 = some .sbcAAtHl ∧
    decodeTableWord 8 0b10100011 = some (.andR .e) ∧
    decodeTableWord 8 0b10100110 = some .andAtHl ∧
    decodeTableWord 8 0b10101011 = some (.xorR .e) ∧
    decodeTableWord 8 0b10101110 = some .xorAtHl ∧
    decodeTableWord 8 0b10110011 = some (.orR .e) ∧
    decodeTableWord 8 0b10110110 = some .orAtHl ∧
    decodeTableWord 8 0b10111011 = some (.cpR .e) := by decide

theorem test_decode_M6 :
    decodeTableWord 8 0b10111110 = some .cpAtHl ∧
    decodeTableWord 8 0b11000000 = some (.retCc .nz) ∧
    decodeTableWord 8 0b11110001 = some (.popQq .af) ∧
    decodeTableWord 8 0b11001001 = some .ret ∧
    decodeTableWord 8 0b11011001 = some .exx ∧
    decodeTableWord 8 0b11101001 = some .jpHl ∧
    decodeTableWord 8 0b11111001 = some .ldSpHl ∧
    decodeTableWord 8 0b11100011 = some .exAtSpHl := by decide

theorem test_decode_M7 :
    decodeTableWord 8 0b11101011 = some .exDeHl ∧
    decodeTableWord 8 0b11110011 = some .di ∧
    decodeTableWord 8 0b11111011 = some .ei ∧
    decodeTableWord 8 0b11010101 = some (.pushQq .de) ∧
    decodeTableWord 8 0b11111111 = some (.rstP 7#3) := by decide

theorem test_decode_Me :
    decodeTableWord 16 0b10000000_00010000 = some (.djnz 0x80#8) ∧
    decodeTableWord 16 0b10000000_00011000 = some (.jr 0x80#8) ∧
    decodeTableWord 16 0b10000000_00111000 = some (.jrCc .c 0x80#8) := by decide

theorem test_decode_Mnn1 :
    decodeTableWord 24 0b00010010_00110100_00100001 = some (.ldDdNn .hl 0x1234#16) ∧
    decodeTableWord 24 0b00010010_00110100_00100010 = some (.ldAtNnHl 0x1234#16) ∧
    decodeTableWord 24 0b00010010_00110100_00110010 = some (.ldAtNnA 0x1234#16) ∧
    decodeTableWord 24 0b00010010_00110100_00101010 = some (.ldHlAtNn 0x1234#16) ∧
    decodeTableWord 24 0b00010010_00110100_00111010 = some (.ldAAtNn 0x1234#16) ∧
    decodeTableWord 24 0b00010010_00110100_11010010 = some (.jpCcNn .nc 0x1234#16) ∧
    decodeTableWord 24 0b00010010_00110100_11000011 = some (.jpNn 0x1234#16) ∧
    decodeTableWord 24 0b00010010_00110100_11010100 = some (.callCcNn .nc 0x1234#16) := by decide

theorem test_decode_Mnn2 :
    decodeTableWord 24 0b00010010_00110100_11001101 = some (.callNn 0x1234#16) := by decide

theorem test_decode_Mn1 :
    decodeTableWord 16 0b10100101_00011110 = some (.ldRN .e 0xA5#8) ∧
    decodeTableWord 16 0b10100101_00110110 = some (.ldAtHlN 0xA5#8) ∧
    decodeTableWord 16 0b10100101_11000110 = some (.addAN 0xA5#8) ∧
    decodeTableWord 16 0b10100101_11001110 = some (.adcAN 0xA5#8) ∧
    decodeTableWord 16 0b10100101_11010110 = some (.subN 0xA5#8) ∧
    decodeTableWord 16 0b10100101_11011110 = some (.sbcAN 0xA5#8) ∧
    decodeTableWord 16 0b10100101_11100110 = some (.andN 0xA5#8) ∧
    decodeTableWord 16 0b10100101_11101110 = some (.xorN 0xA5#8) := by decide

theorem test_decode_Mn2 :
    decodeTableWord 16 0b10100101_11110110 = some (.orN 0xA5#8) ∧
    decodeTableWord 16 0b10100101_11111110 = some (.cpN 0xA5#8) ∧
    decodeTableWord 16 0b10100101_11010011 = some (.outNA 0xA5#8) ∧
    decodeTableWord 16 0b10100101_11011011 = some (.inAN 0xA5#8) := by decide

theorem test_decode_CB1 :
    decodeTableWord 16 0b00000011_11001011 = some (.rlcR .e) ∧
    decodeTableWord 16 0b00000110_11001011 = some .rlcAtHl ∧
    decodeTableWord 16 0b00001011_11001011 = some (.rrcR .e) ∧
    decodeTableWord 16 0b00001110_11001011 = some .rrcAtHl ∧
    decodeTableWord 16 0b00010011_11001011 = some (.rlR .e) ∧
    decodeTableWord 16 0b00010110_11001011 = some .rlAtHl ∧
    decodeTableWord 16 0b00011011_11001011 = some (.rrR .e) ∧
    decodeTableWord 16 0b00011110_11001011 = some .rrAtHl := by decide

theorem test_decode_CB2 :
    decodeTableWord 16 0b00100011_11001011 = some (.slaR .e) ∧
    decodeTableWord 16 0b00100110_11001011 = some .slaAtHl ∧
    decodeTableWord 16 0b00101011_11001011 = some (.sraR .e) ∧
    decodeTableWord 16 0b00101110_11001011 = some .sraAtHl ∧
    decodeTableWord 16 0b00110011_11001011 = some (.sllR .e) ∧
    decodeTableWord 16 0b00110110_11001011 = some .sllAtHl ∧
    decodeTableWord 16 0b00111011_11001011 = some (.srlR .e) ∧
    decodeTableWord 16 0b00111110_11001011 = some .srlAtHl := by decide

theorem test_decode_CB3 :
    decodeTableWord 16 0b01110011_11001011 = some (.bitBR 6#3 .e) ∧
    decodeTableWord 16 0b01101110_11001011 = some (.bitBAtHl 5#3) ∧
    decodeTableWord 16 0b10100011_11001011 = some (.resBR 4#3 .e) ∧
    decodeTableWord 16 0b10011110_11001011 = some (.resBAtHl 3#3) ∧
    decodeTableWord 16 0b11010011_11001011 = some (.setBR 2#3 .e) ∧
    decodeTableWord 16 0b11001110_11001011 = some (.setBAtHl 1#3) := by decide

theorem test_decode_ED1 :
    decodeTableWord 16 0b01011000_11101101 = some (.inRC .e) ∧
    decodeTableWord 16 0b01110000_11101101 = some .inFC ∧
    decodeTableWord 16 0b01011001_11101101 = some (.outCR .e) ∧
    decodeTableWord 16 0b01110001_11101101 = some .outC0 ∧
    decodeTableWord 16 0b01000010_11101101 = some (.sbcHlSs .bc) ∧
    decodeTableWord 16 0b01111010_11101101 = some (.adcHlSs .sp) ∧
    decodeTableWord 16 0b01000100_11101101 = some .neg ∧
    decodeTableWord 16 0b01100100_11101101 = some (.negY 4#3) := by decide

theorem test_decode_ED2 :
    decodeTableWord 16 0b01000101_11101101 = some .retn ∧
    decodeTableWord 16 0b01001101_11101101 = some .reti ∧
    decodeTableWord 16 0b01010101_11101101 = some (.retnY 2#3) ∧
    decodeTableWord 16 0b01000110_11101101 = some .im0 ∧
    decodeTableWord 16 0b01010110_11101101 = some .im1 ∧
    decodeTableWord 16 0b01011110_11101101 = some .im2 ∧
    decodeTableWord 16 0b01100110_11101101 = some (.imY 4#3) ∧
    decodeTableWord 16 0b01000111_11101101 = some .ldIA := by decide

theorem test_decode_ED3 :
    decodeTableWord 16 0b01001111_11101101 = some .ldRA ∧
    decodeTableWord 16 0b01010111_11101101 = some .ldAI ∧
    decodeTableWord 16 0b01011111_11101101 = some .ldAR ∧
    decodeTableWord 16 0b01100111_11101101 = some .rrd ∧
    decodeTableWord 16 0b01101111_11101101 = some .rld ∧
    decodeTableWord 16 0b01111111_11101101 = some (.nopEd 1#1) ∧
    decodeTableWord 16 0b10100000_11101101 = some .ldi ∧
    decodeTableWord 16 0b10101000_11101101 = some .ldd := by decide

theorem test_decode_ED4 :
    decodeTableWord 16 0b10110000_11101101 = some .ldir ∧
    decodeTableWord 16 0b10111000_11101101 = some .lddr ∧
    decodeTableWord 16 0b10100001_11101101 = some .cpi ∧
    decodeTableWord 16 0b10101001_11101101 = some .cpd ∧
    decodeTableWord 16 0b10110001_11101101 = some .cpir ∧
    decodeTableWord 16 0b10111001_11101101 = some .cpdr ∧
    decodeTableWord 16 0b10100010_11101101 = some .ini ∧
    decodeTableWord 16 0b10101010_11101101 = some .ind := by decide

theorem test_decode_ED5 :
    decodeTableWord 16 0b10110010_11101101 = some .inir ∧
    decodeTableWord 16 0b10111010_11101101 = some .indr ∧
    decodeTableWord 16 0b10100011_11101101 = some .outi ∧
    decodeTableWord 16 0b10101011_11101101 = some .outd ∧
    decodeTableWord 16 0b10110011_11101101 = some .otir ∧
    decodeTableWord 16 0b10111011_11101101 = some .otdr := by decide

theorem test_decode_EDnn :
    decodeTableWord 32 0b00010010_00110100_01100011_11101101 = some (.ldAtNnDd 0x1234#16 .hl) ∧
    decodeTableWord 32 0b00010010_00110100_01011011_11101101 = some (.ldDdAtNn .de 0x1234#16) := by decide

theorem test_decode_XY1 :
    decodeTableWord 16 0b00001001_11011101 = some (.addXyPp .ix .bc) ∧
    decodeTableWord 16 0b00100011_11111101 = some (.incXy .iy) ∧
    decodeTableWord 16 0b00101011_11011101 = some (.decXy .ix) ∧
    decodeTableWord 16 0b00100100_11011101 = some (.incXyh .ix) ∧
    decodeTableWord 16 0b00100101_11111101 = some (.decXyh .iy) ∧
    decodeTableWord 16 0b00101100_11011101 = some (.incXyl .ix) ∧
    decodeTableWord 16 0b00101101_11111101 = some (.decXyl .iy) ∧
    decodeTableWord 16 0b01101011_11111101 = some (.ldHalfP .iy .low .e) := by decide

theorem test_decode_XY2 :
    decodeTableWord 16 0b01010100_11011101 = some (.ldPHalf .ix .d .high) ∧
    decodeTableWord 16 0b10000100_11011101 = some (.addAHalf .ix .high) ∧
    decodeTableWord 16 0b10001100_11011101 = some (.adcAHalf .ix .high) ∧
    decodeTableWord 16 0b10010100_11011101 = some (.subHalf .ix .high) ∧
    decodeTableWord 16 0b10011100_11011101 = some (.sbcAHalf .ix .high) ∧
    decodeTableWord 16 0b10100100_11011101 = some (.andHalf .ix .high) ∧
    decodeTableWord 16 0b10101100_11011101 = some (.xorHalf .ix .high) ∧
    decodeTableWord 16 0b10110100_11011101 = some (.orHalf .ix .high) := by decide

theorem test_decode_XY3 :
    decodeTableWord 16 0b10111100_11011101 = some (.cpHalf .ix .high) ∧
    decodeTableWord 16 0b11100001_11111101 = some (.popXy .iy) ∧
    decodeTableWord 16 0b11100011_11011101 = some (.exAtSpXy .ix) ∧
    decodeTableWord 16 0b11100101_11111101 = some (.pushXy .iy) ∧
    decodeTableWord 16 0b11101001_11011101 = some (.jpXy .ix) ∧
    decodeTableWord 16 0b11111001_11111101 = some (.ldSpXy .iy) := by decide

theorem test_decode_XYnn :
    decodeTableWord 32 0b00010010_00110100_00100001_11111101 = some (.ldXyNn .iy 0x1234#16) ∧
    decodeTableWord 32 0b00010010_00110100_00100010_11011101 = some (.ldAtNnXy 0x1234#16 .ix) ∧
    decodeTableWord 32 0b00010010_00110100_00101010_11111101 = some (.ldXyAtNn .iy 0x1234#16) := by decide

theorem test_decode_XYn :
    decodeTableWord 24 0b10100101_00100110_11011101 = some (.ldXyhN .ix 0xA5#8) ∧
    decodeTableWord 24 0b10100101_00101110_11111101 = some (.ldXylN .iy 0xA5#8) := by decide

theorem test_decode_XYd1 :
    decodeTableWord 24 0b11111110_00110100_11011101 = some (.incAtXyd .ix 0xFE#8) ∧
    decodeTableWord 24 0b11111110_00110101_11111101 = some (.decAtXyd .iy 0xFE#8) ∧
    decodeTableWord 24 0b11111110_01011110_11111101 = some (.ldRAtXyd .e .iy 0xFE#8) ∧
    decodeTableWord 24 0b11111110_01110011_11011101 = some (.ldAtXydR .ix 0xFE#8 .e) ∧
    decodeTableWord 24 0b11111110_10000110_11111101 = some (.addAAtXyd .iy 0xFE#8) ∧
    decodeTableWord 24 0b11111110_10001110_11111101 = some (.adcAAtXyd .iy 0xFE#8) ∧
    decodeTableWord 24 0b11111110_10010110_11111101 = some (.subAtXyd .iy 0xFE#8) ∧
    decodeTableWord 24 0b11111110_10011110_11111101 = some (.sbcAAtXyd .iy 0xFE#8) := by decide

theorem test_decode_XYd2 :
    decodeTableWord 24 0b11111110_10100110_11111101 = some (.andAtXyd .iy 0xFE#8) ∧
    decodeTableWord 24 0b11111110_10101110_11111101 = some (.xorAtXyd .iy 0xFE#8) ∧
    decodeTableWord 24 0b11111110_10110110_11111101 = some (.orAtXyd .iy 0xFE#8) ∧
    decodeTableWord 24 0b11111110_10111110_11111101 = some (.cpAtXyd .iy 0xFE#8) := by decide

theorem test_decode_XYdn :
    decodeTableWord 32 0b10100101_11111110_00110110_11011101 = some (.ldAtXydN .ix 0xFE#8 0xA5#8) := by decide

theorem test_decode_XYCB1 :
    decodeTableWord 32 0b00000110_11111110_11001011_11011101 = some (.rlcAtXyd .ix 0xFE#8) ∧
    decodeTableWord 32 0b00000011_11111110_11001011_11111101 = some (.rlcAtXydR .iy 0xFE#8 .e) ∧
    decodeTableWord 32 0b00001110_11111110_11001011_11011101 = some (.rrcAtXyd .ix 0xFE#8) ∧
    decodeTableWord 32 0b00001011_11111110_11001011_11111101 = some (.rrcAtXydR .iy 0xFE#8 .e) ∧
    decodeTableWord 32 0b00010110_11111110_11001011_11011101 = some (.rlAtXyd .ix 0xFE#8) ∧
    decodeTableWord 32 0b00010011_11111110_11001011_11111101 = some (.rlAtXydR .iy 0xFE#8 .e) ∧
    decodeTableWord 32 0b00011110_11111110_11001011_11011101 = some (.rrAtXyd .ix 0xFE#8) ∧
    decodeTableWord 32 0b00011011_11111110_11001011_11111101 = some (.rrAtXydR .iy 0xFE#8 .e) := by decide

theorem test_decode_XYCB2 :
    decodeTableWord 32 0b00100110_11111110_11001011_11011101 = some (.slaAtXyd .ix 0xFE#8) ∧
    decodeTableWord 32 0b00100011_11111110_11001011_11111101 = some (.slaAtXydR .iy 0xFE#8 .e) ∧
    decodeTableWord 32 0b00101110_11111110_11001011_11011101 = some (.sraAtXyd .ix 0xFE#8) ∧
    decodeTableWord 32 0b00101011_11111110_11001011_11111101 = some (.sraAtXydR .iy 0xFE#8 .e) ∧
    decodeTableWord 32 0b00110110_11111110_11001011_11011101 = some (.sllAtXyd .ix 0xFE#8) ∧
    decodeTableWord 32 0b00110011_11111110_11001011_11111101 = some (.sllAtXydR .iy 0xFE#8 .e) ∧
    decodeTableWord 32 0b00111110_11111110_11001011_11011101 = some (.srlAtXyd .ix 0xFE#8) ∧
    decodeTableWord 32 0b00111011_11111110_11001011_11111101 = some (.srlAtXydR .iy 0xFE#8 .e) := by decide

theorem test_decode_XYCB3 :
    decodeTableWord 32 0b01000110_11111110_11001011_11011101 = some (.bitBAtXyd 0#3 .ix 0xFE#8) ∧
    decodeTableWord 32 0b01111011_11111110_11001011_11111101 = some (.bitBAtXydZ 7#3 .iy 0xFE#8 3#3) ∧
    decodeTableWord 32 0b10110110_11111110_11001011_11011101 = some (.resBAtXyd 6#3 .ix 0xFE#8) ∧
    decodeTableWord 32 0b10101011_11111110_11001011_11111101 = some (.resBAtXydR 5#3 .iy 0xFE#8 .e) ∧
    decodeTableWord 32 0b11100110_11111110_11001011_11011101 = some (.setBAtXyd 4#3 .ix 0xFE#8) ∧
    decodeTableWord 32 0b11011011_11111110_11001011_11111101 = some (.setBAtXydR 3#3 .iy 0xFE#8 .e) := by decide

/-! ## One step: vectors of 95_test_vectors.md section 2 -/

/-- The zero base of 95_test_vectors.md with PC at 0x0100. -/
def zero : State :=
  { State.coldStart { ix := 0, iy := 0, wz := 0, bc' := 0, de' := 0, hl' := 0 } with
    a := 0, f := 0, b := 0, c := 0, d := 0, e := 0, h := 0, l := 0, af' := 0, sp := 0, pc := 0x0100 }

/-- `s` with the bytes `code` at PC and the pairs `cells` in memory. -/
def place (s : State) (code : List Byte) (cells : List (Nat × Byte)) : State :=
  let at0 := (List.range code.length).zip code |>.map fun p => ((s.pc + BitVec.ofNat 16 p.1).toNat, p.2)
  { s with mem := (cells ++ at0).foldl (fun m c => m.write c.1 c.2) s.mem }

/-- One step from `s` after placing `code` and `cells` ends with the registers of `u`, has issued `ops` after
the fetch, and memory holds what `ops` wrote. -/
def steps (code : List Byte) (cells : List (Nat × Byte)) (s u : State) (ops : List BusOp) : Bool :=
  match step (place s code cells) with
  | .next t =>
    decide ({ t with mem := u.mem, trace := u.trace, portIn := u.portIn } = u) &&
      decide ((t.bus.take ops.length).reverse = ops) && decide (t.bus.length = code.length + ops.length) &&
      ops.all fun
        | .memWrite a v => t.peek a == v
        | _ => true
  | _ => false

/-- One step from PC = `pc` on the bytes `code` stops, reports `pc` and `code`, and has read them one by one
(`reads`, oldest first), issuing nothing else. -/
def stops (pc : Word) (code : List Byte) (reads : List BusOp) : Bool :=
  match step (place { zero with pc := pc } code []) with
  | .fault (.decodeFault addr bytes record) =>
    addr == pc && bytes == code && (record.filter BusOp.isOp).reverse == reads
  | _ => false

theorem test_V1_ldRR : steps [0x65] [] { zero with h := 0x12, l := 0xAB }
    { zero with h := 0xAB, l := 0xAB, pc := 0x0101, r := 0x01 } [] = true := by decide
theorem test_V3_ldRN : steps [0x06, 0xFF] [] zero
    { zero with b := 0xFF, c := 0x00, pc := 0x0102, r := 0x01 } [] = true := by decide
theorem test_V4_ldRAtHl : steps [0x66] [(0x8000, 0x12)] { zero with h := 0x80, l := 0x00 }
    { zero with h := 0x12, l := 0x00, pc := 0x0101, r := 0x01 } [.memRead 0x8000 0x12] = true := by decide
theorem test_V7_ldRAtXyd : steps [0xFD, 0x66, 0x01] [(0x0000, 0x99)]
    { zero with iy := 0xFFFF, h := 0x11, l := 0x11 }
    { zero with iy := 0xFFFF, h := 0x99, l := 0x11, pc := 0x0103, r := 0x02 } [.memRead 0x0000 0x99]
    = true := by decide
theorem test_V8_ldAtHlR : steps [0x75] [] { zero with h := 0x80, l := 0x34 }
    { zero with h := 0x80, l := 0x34, pc := 0x0101, r := 0x01 } [.memWrite 0x8034 0x34] = true := by decide
theorem test_V9_ldAtXydR : steps [0xDD, 0x74, 0x7F] [] { zero with ix := 0x8000, h := 0xAB, l := 0x00 }
    { zero with ix := 0x8000, h := 0xAB, l := 0x00, pc := 0x0103, wz := 0x807F, r := 0x02 }
    [.memWrite 0x807F 0xAB] = true := by decide
theorem test_V10_ldAtHlN : steps [0x36, 0x00] [(0x8000, 0xFF)] { zero with h := 0x80, l := 0x00 }
    { zero with h := 0x80, l := 0x00, pc := 0x0102, r := 0x01 } [.memWrite 0x8000 0x00] = true := by decide
theorem test_V11_ldAtXydN : steps [0xFD, 0x36, 0xFF, 0x5A] [] { zero with iy := 0x8000 }
    { zero with iy := 0x8000, pc := 0x0104, wz := 0x7FFF, r := 0x02 } [.memWrite 0x7FFF 0x5A]
    = true := by decide
theorem test_V12_ldAAtBc : steps [0x0A] [(0xFFFF, 0x80)] { zero with b := 0xFF, c := 0xFF }
    { zero with b := 0xFF, c := 0xFF, a := 0x80, f := 0x00, pc := 0x0101, r := 0x01 } [.memRead 0xFFFF 0x80]
    = true := by decide
theorem test_V13_ldAAtDe : steps [0x1A] [(0x4000, 0x01)] { zero with d := 0x40, e := 0x00 }
    { zero with d := 0x40, e := 0x00, a := 0x01, f := 0x00, pc := 0x0101, wz := 0x4001, r := 0x01 }
    [.memRead 0x4000 0x01] = true := by decide
theorem test_V14_ldAAtNn : steps [0x3A, 0xFF, 0xFF] [(0xFFFF, 0x21)] zero
    { zero with a := 0x21, f := 0x00, pc := 0x0103, r := 0x01 } [.memRead 0xFFFF 0x21] = true := by decide
theorem test_V15_ldAtBcA : steps [0x02] [] { zero with b := 0x40, c := 0xFF, a := 0x55, f := 0x00 }
    { zero with b := 0x40, c := 0xFF, a := 0x55, f := 0x00, pc := 0x0101, wz := 0x5500, r := 0x01 }
    [.memWrite 0x40FF 0x55] = true := by decide
theorem test_V16_ldAtDeA : steps [0x12] [] { zero with d := 0x40, e := 0x00, a := 0xAA, f := 0x00 }
    { zero with d := 0x40, e := 0x00, a := 0xAA, f := 0x00, pc := 0x0101, wz := 0xAA01, r := 0x01 }
    [.memWrite 0x4000 0xAA] = true := by decide
theorem test_V17_ldAtNnA : steps [0x32, 0x00, 0x80] [] { zero with a := 0x7E, f := 0x00 }
    { zero with a := 0x7E, f := 0x00, pc := 0x0103, wz := 0x7E01, r := 0x01 } [.memWrite 0x8000 0x7E]
    = true := by decide
theorem test_V18_ldAI : steps [0xED, 0x57] [] { zero with i := 0x80, iff2 := false, a := 0x00, f := 0xFF }
    { zero with i := 0x80, iff2 := false, a := 0x80, f := 0x81, pc := 0x0102, r := 0x02 } []
    = true := by decide
theorem test_V19_ldAI : steps [0xED, 0x57] [] { zero with i := 0x28, iff2 := true, a := 0x00, f := 0x00 }
    { zero with i := 0x28, iff2 := true, a := 0x28, f := 0x2C, pc := 0x0102, r := 0x02 } []
    = true := by decide
theorem test_V20_ldAR : steps [0xED, 0x5F] [] { zero with r := 0xFE, iff2 := true }
    { zero with r := 0x80, iff2 := true, a := 0x80, f := 0x84, pc := 0x0102 } [] = true := by decide
theorem test_V21_ldIA : steps [0xED, 0x47] [] { zero with a := 0xFF, f := 0x00 }
    { zero with a := 0xFF, f := 0x00, pc := 0x0102, i := 0xFF, r := 0x02 } [] = true := by decide
theorem test_V22_ldRA : steps [0xED, 0x4F] [] { zero with a := 0x80, f := 0x00 }
    { zero with a := 0x80, f := 0x00, pc := 0x0102, r := 0x80 } [] = true := by decide
theorem test_V23_ldHalfP : steps [0xDD, 0x6C] [] { zero with ix := 0x12AB, h := 0x55, l := 0x55 }
    { zero with ix := 0x1212, h := 0x55, l := 0x55, pc := 0x0102, r := 0x02 } [] = true := by decide
theorem test_V24_ldPHalf : steps [0xFD, 0x44] [] { zero with iy := 0x9A00 }
    { zero with iy := 0x9A00, b := 0x9A, c := 0x00, pc := 0x0102, r := 0x02 } [] = true := by decide
theorem test_V25_ldXylN : steps [0xDD, 0x2E, 0x80] [] { zero with ix := 0x1234 }
    { zero with ix := 0x1280, pc := 0x0103, r := 0x02 } [] = true := by decide
theorem test_V27_ldDdNn : steps [0x01, 0x34, 0x12] [] zero
    { zero with b := 0x12, c := 0x34, pc := 0x0103, r := 0x01 } [] = true := by decide
theorem test_V29_ldXyNn : steps [0xDD, 0x21, 0x00, 0x80] [] zero
    { zero with ix := 0x8000, pc := 0x0104, r := 0x02 } [] = true := by decide
theorem test_V30_ldHlAtNn : steps [0x2A, 0xFF, 0xFF] [(0x0000, 0x12), (0xFFFF, 0x34)] zero
    { zero with h := 0x12, l := 0x34, pc := 0x0103, r := 0x01 } [.memRead 0xFFFF 0x34, .memRead 0x0000 0x12]
    = true := by decide
theorem test_V31_ldDdAtNn : steps [0xED, 0x4B, 0x00, 0x80] [(0x8000, 0xCD), (0x8001, 0xAB)] zero
    { zero with b := 0xAB, c := 0xCD, pc := 0x0104, wz := 0x8001, r := 0x02 }
    [.memRead 0x8000 0xCD, .memRead 0x8001 0xAB] = true := by decide
theorem test_V33_ldXyAtNn : steps [0xFD, 0x2A, 0x00, 0x80] [(0x8000, 0x01), (0x8001, 0x02)] zero
    { zero with iy := 0x0201, pc := 0x0104, wz := 0x8001, r := 0x02 }
    [.memRead 0x8000 0x01, .memRead 0x8001 0x02] = true := by decide
theorem test_V34_ldAtNnHl : steps [0x22, 0xFF, 0xFF] [] { zero with h := 0xA1, l := 0xB2 }
    { zero with h := 0xA1, l := 0xB2, pc := 0x0103, r := 0x01 }
    [.memWrite 0xFFFF 0xB2, .memWrite 0x0000 0xA1] = true := by decide
theorem test_V35_ldAtNnDd : steps [0xED, 0x53, 0x00, 0x80] [] { zero with d := 0x12, e := 0x34 }
    { zero with d := 0x12, e := 0x34, pc := 0x0104, wz := 0x8001, r := 0x02 }
    [.memWrite 0x8000 0x34, .memWrite 0x8001 0x12] = true := by decide
theorem test_V36_ldAtNnXy : steps [0xDD, 0x22, 0x00, 0x80] [] { zero with ix := 0xCAFE }
    { zero with ix := 0xCAFE, pc := 0x0104, wz := 0x8001, r := 0x02 }
    [.memWrite 0x8000 0xFE, .memWrite 0x8001 0xCA] = true := by decide
theorem test_V37_ldSpHl : steps [0xF9] [] { zero with h := 0xFF, l := 0xFE }
    { zero with h := 0xFF, l := 0xFE, sp := 0xFFFE, pc := 0x0101, r := 0x01 } [] = true := by decide
theorem test_V38_ldSpXy : steps [0xFD, 0xF9] [] { zero with iy := 0x4000 }
    { zero with iy := 0x4000, sp := 0x4000, pc := 0x0102, r := 0x02 } [] = true := by decide
theorem test_V39_pushQq : steps [0xF5] [] { zero with a := 0x12, f := 0xD7, sp := 0x0001 }
    { zero with a := 0x12, f := 0xD7, sp := 0xFFFF, pc := 0x0101, r := 0x01 }
    [.memWrite 0x0000 0x12, .memWrite 0xFFFF 0xD7] = true := by decide
theorem test_V41_pushXy : steps [0xFD, 0xE5] [] { zero with iy := 0x55AA, sp := 0x8000 }
    { zero with iy := 0x55AA, sp := 0x7FFE, pc := 0x0102, r := 0x02 }
    [.memWrite 0x7FFF 0x55, .memWrite 0x7FFE 0xAA] = true := by decide
theorem test_V42_popQq : steps [0xC1] [(0x0000, 0x12), (0xFFFF, 0x34)] { zero with sp := 0xFFFF }
    { zero with sp := 0x0001, b := 0x12, c := 0x34, pc := 0x0101, r := 0x01 }
    [.memRead 0xFFFF 0x34, .memRead 0x0000 0x12] = true := by decide
theorem test_V43_popQq : steps [0xF1] [(0x8000, 0xFF), (0x8001, 0x00)] { zero with sp := 0x8000 }
    { zero with sp := 0x8002, a := 0x00, f := 0xFF, pc := 0x0101, r := 0x01 }
    [.memRead 0x8000 0xFF, .memRead 0x8001 0x00] = true := by decide
theorem test_V44_popXy : steps [0xDD, 0xE1] [(0x8000, 0xEF), (0x8001, 0xBE)] { zero with sp := 0x8000 }
    { zero with sp := 0x8002, ix := 0xBEEF, pc := 0x0102, r := 0x02 }
    [.memRead 0x8000 0xEF, .memRead 0x8001 0xBE] = true := by decide
theorem test_V45_exDeHl : steps [0xEB] []
    { zero with d := 0x12, e := 0x34, h := 0xAB, l := 0xCD, a := 0x00, f := 0xFF }
    { zero with d := 0xAB, e := 0xCD, h := 0x12, l := 0x34, a := 0x00, f := 0xFF, pc := 0x0101, r := 0x01 }
    [] = true := by decide
theorem test_V46_exAfAf : steps [0x08] [] { zero with a := 0x12, f := 0x34, af' := 0xABCD }
    { zero with a := 0xAB, f := 0xCD, af' := 0x1234, pc := 0x0101, r := 0x01 } [] = true := by decide
theorem test_V47_exx : steps [0xD9] []
    { zero with b := 0x01, c := 0x02, d := 0x03, e := 0x04, h := 0x05, l := 0x06, bc' := 0x1112,
                de' := 0x1314, hl' := 0x1516, a := 0x77, f := 0x00 }
    { zero with b := 0x11, c := 0x12, d := 0x13, e := 0x14, h := 0x15, l := 0x16, bc' := 0x0102,
                de' := 0x0304, hl' := 0x0506, a := 0x77, f := 0x00, pc := 0x0101, r := 0x01 } []
    = true := by decide
theorem test_V48_exAtSpHl : steps [0xE3] [(0x0000, 0xAB), (0xFFFF, 0xCD)]
    { zero with sp := 0xFFFF, h := 0x12, l := 0x34 }
    { zero with sp := 0xFFFF, h := 0xAB, l := 0xCD, pc := 0x0101, wz := 0xABCD, r := 0x01 }
    [.memRead 0xFFFF 0xCD, .memRead 0x0000 0xAB, .memWrite 0x0000 0x12, .memWrite 0xFFFF 0x34]
    = true := by decide
theorem test_V49_exAtSpXy : steps [0xFD, 0xE3] [(0x8000, 0x78), (0x8001, 0x56)]
    { zero with sp := 0x8000, iy := 0x1234 }
    { zero with sp := 0x8000, iy := 0x5678, pc := 0x0102, wz := 0x5678, r := 0x02 }
    [.memRead 0x8000 0x78, .memRead 0x8001 0x56, .memWrite 0x8001 0x12, .memWrite 0x8000 0x34]
    = true := by decide
theorem test_V51_ldi : steps [0xED, 0xA0] [(0xFFFF, 0x08)]
    { zero with h := 0xFF, l := 0xFF, d := 0xFF, e := 0xFF, b := 0x00, c := 0x00, a := 0x20, f := 0x00 }
    { zero with h := 0x00, l := 0x00, d := 0x00, e := 0x00, b := 0xFF, c := 0xFF, a := 0x20, f := 0x0C,
                pc := 0x0102, r := 0x02 } [.memRead 0xFFFF 0x08, .memWrite 0xFFFF 0x08] = true := by decide
theorem test_V54_ldir : steps [0xED, 0xB0] [(0x4000, 0x11), (0x4001, 0x22), (0x4002, 0x33)]
    { zero with h := 0x40, l := 0x00, d := 0x50, e := 0x00, b := 0x00, c := 0x03 }
    { zero with h := 0x40, l := 0x01, d := 0x50, e := 0x01, b := 0x00, c := 0x02, a := 0x00, f := 0x04,
                wz := 0x0101, r := 0x02 } [.memRead 0x4000 0x11, .memWrite 0x5000 0x11] = true := by decide
theorem test_V55_ldd : steps [0xED, 0xA8] [(0x0000, 0xFF)]
    { zero with h := 0x00, l := 0x00, d := 0x00, e := 0x00, b := 0x00, c := 0x02, a := 0x01, f := 0x00 }
    { zero with h := 0xFF, l := 0xFF, d := 0xFF, e := 0xFF, b := 0x00, c := 0x01, a := 0x01, f := 0x04,
                pc := 0x0102, r := 0x02 } [.memRead 0x0000 0xFF, .memWrite 0x0000 0xFF] = true := by decide
theorem test_V57_cpi : steps [0xED, 0xA1] [(0x4000, 0x01)]
    { zero with a := 0x10, f := 0x01, h := 0x40, l := 0x00, b := 0x00, c := 0x02 }
    { zero with a := 0x10, f := 0x3F, h := 0x40, l := 0x01, b := 0x00, c := 0x01, pc := 0x0102,
                wz := 0x0001, r := 0x02 } [.memRead 0x4000 0x01] = true := by decide
theorem test_V61_cpd : steps [0xED, 0xA9] [(0x4000, 0x41)]
    { zero with a := 0x40, f := 0x00, h := 0x40, l := 0x00, b := 0x00, c := 0x03, wz := 0x1000 }
    { zero with a := 0x40, f := 0xBE, h := 0x3F, l := 0xFF, b := 0x00, c := 0x02, wz := 0x0FFF,
                pc := 0x0102, r := 0x02 } [.memRead 0x4000 0x41] = true := by decide
theorem test_V63_addAR : steps [0x87] [] { zero with a := 0x80, f := 0x00 }
    { zero with a := 0x00, f := 0x45, pc := 0x0101, r := 0x01 } [] = true := by decide
theorem test_V65_addAAtHl : steps [0x86] [(0x8000, 0x01)]
    { zero with a := 0x0F, f := 0x00, h := 0x80, l := 0x00 }
    { zero with a := 0x10, f := 0x10, h := 0x80, l := 0x00, pc := 0x0101, r := 0x01 } [.memRead 0x8000 0x01]
    = true := by decide
theorem test_V66_addAAtXyd : steps [0xDD, 0x86, 0x05] [(0x8005, 0x22)]
    { zero with a := 0x10, f := 0x00, ix := 0x8000 }
    { zero with a := 0x32, f := 0x20, ix := 0x8000, pc := 0x0103, wz := 0x8005, r := 0x02 }
    [.memRead 0x8005 0x22] = true := by decide
theorem test_V67_adcAN : steps [0xCE, 0xFF] [] { zero with a := 0x00, f := 0x01 }
    { zero with a := 0x00, f := 0x51, pc := 0x0102, r := 0x01 } [] = true := by decide
theorem test_V70_subN : steps [0xD6, 0x01] [] { zero with a := 0x80, f := 0x00 }
    { zero with a := 0x7F, f := 0x3E, pc := 0x0102, r := 0x01 } [] = true := by decide
theorem test_V72_sbcAAtHl : steps [0x9E] [(0x8000, 0xFF)]
    { zero with a := 0x7F, f := 0x01, h := 0x80, l := 0x00 }
    { zero with a := 0x7F, f := 0x3B, h := 0x80, l := 0x00, pc := 0x0101, r := 0x01 } [.memRead 0x8000 0xFF]
    = true := by decide
theorem test_V74_andN : steps [0xE6, 0x0F] [] { zero with a := 0xFF, f := 0xFF }
    { zero with a := 0x0F, f := 0x1C, pc := 0x0102, r := 0x01 } [] = true := by decide
theorem test_V76_xorAtHl : steps [0xAE] [(0x8000, 0xF0)]
    { zero with a := 0x0F, f := 0x00, h := 0x80, l := 0x00 }
    { zero with a := 0xFF, f := 0xAC, h := 0x80, l := 0x00, pc := 0x0101, r := 0x01 } [.memRead 0x8000 0xF0]
    = true := by decide
theorem test_V78_orN : steps [0xF6, 0x28] [] { zero with a := 0x80, f := 0x00 }
    { zero with a := 0xA8, f := 0xA8, pc := 0x0102, r := 0x01 } [] = true := by decide
theorem test_V79_cpN : steps [0xFE, 0x28] [] { zero with a := 0x00, f := 0x00 }
    { zero with a := 0x00, f := 0xBB, pc := 0x0102, r := 0x01 } [] = true := by decide
theorem test_V81_cpAtXyd : steps [0xFD, 0xBE, 0xFE] [(0x8000, 0x42)]
    { zero with a := 0x42, f := 0x00, iy := 0x8002 }
    { zero with a := 0x42, f := 0x42, iy := 0x8002, pc := 0x0103, wz := 0x8000, r := 0x02 }
    [.memRead 0x8000 0x42] = true := by decide
theorem test_V82_subHalf : steps [0xFD, 0x95] [] { zero with a := 0x10, f := 0x00, iy := 0x0001 }
    { zero with a := 0x0F, f := 0x1A, iy := 0x0001, pc := 0x0102, r := 0x02 } [] = true := by decide
theorem test_V83_xorHalf : steps [0xDD, 0xAC] [] { zero with a := 0xFF, f := 0x00, ix := 0xFF00 }
    { zero with a := 0x00, f := 0x44, ix := 0xFF00, pc := 0x0102, r := 0x02 } [] = true := by decide
theorem test_V84_incR : steps [0x3C] [] { zero with a := 0x7F, f := 0xFF }
    { zero with a := 0x80, f := 0x95, pc := 0x0101, r := 0x01 } [] = true := by decide
theorem test_V87_incAtHl : steps [0x34] [(0x8000, 0x7F)] { zero with h := 0x80, l := 0x00 }
    { zero with h := 0x80, l := 0x00, a := 0x00, f := 0x94, pc := 0x0101, r := 0x01 }
    [.memRead 0x8000 0x7F, .memWrite 0x8000 0x80] = true := by decide
theorem test_V88_incAtXyd : steps [0xFD, 0x34, 0x80] [(0x8000, 0xFF)] { zero with iy := 0x8080 }
    { zero with iy := 0x8080, a := 0x00, f := 0x50, pc := 0x0103, wz := 0x8000, r := 0x02 }
    [.memRead 0x8000 0xFF, .memWrite 0x8000 0x00] = true := by decide
theorem test_V90_decR : steps [0x0D] [] { zero with b := 0x00, c := 0x00, a := 0x00, f := 0x01 }
    { zero with b := 0x00, c := 0xFF, a := 0x00, f := 0xBB, pc := 0x0101, r := 0x01 } [] = true := by decide
theorem test_V93_decAtXyd : steps [0xDD, 0x35, 0x00] [(0x8000, 0x00)] { zero with ix := 0x8000 }
    { zero with ix := 0x8000, a := 0x00, f := 0xBA, pc := 0x0103, wz := 0x8000, r := 0x02 }
    [.memRead 0x8000 0x00, .memWrite 0x8000 0xFF] = true := by decide
theorem test_V94_incXyh : steps [0xDD, 0x24] [] { zero with ix := 0x7F00 }
    { zero with ix := 0x8000, a := 0x00, f := 0x94, pc := 0x0102, r := 0x02 } [] = true := by decide
theorem test_V95_decXyl : steps [0xFD, 0x2D] [] { zero with iy := 0x0000, a := 0x00, f := 0x01 }
    { zero with iy := 0x00FF, a := 0x00, f := 0xBB, pc := 0x0102, r := 0x02 } [] = true := by decide
theorem test_V101_daa : steps [0x27] [] { zero with a := 0xFA, f := 0x02 }
    { zero with a := 0x94, f := 0x83, pc := 0x0101, r := 0x01 } [] = true := by decide
theorem test_V103_daa : steps [0x27] [] { zero with a := 0x00, f := 0x13 }
    { zero with a := 0x9A, f := 0x9F, pc := 0x0101, r := 0x01 } [] = true := by decide
theorem test_V105_cpl : steps [0x2F] [] { zero with a := 0x00, f := 0xC5 }
    { zero with a := 0xFF, f := 0xFF, pc := 0x0101, r := 0x01 } [] = true := by decide
theorem test_V108_neg : steps [0xED, 0x44] [] { zero with a := 0x80, f := 0x00 }
    { zero with a := 0x80, f := 0x87, pc := 0x0102, r := 0x02 } [] = true := by decide
theorem test_V110_negY : steps [0xED, 0x6C] [] { zero with a := 0x10, f := 0x00 }
    { zero with a := 0xF0, f := 0xA3, pc := 0x0102, r := 0x02 } [] = true := by decide
theorem test_V112_ccf : steps [0x3F] [] { zero with a := 0x00, f := 0xFE }
    { zero with a := 0x00, f := 0xC5, pc := 0x0101, r := 0x01 } [] = true := by decide
theorem test_V113_scf : steps [0x37] [] { zero with a := 0x28, f := 0xD6 }
    { zero with a := 0x28, f := 0xED, pc := 0x0101, r := 0x01 } [] = true := by decide
theorem test_V116_nopEd : steps [0xED, 0x77] [] { zero with a := 0x12, f := 0xFF }
    { zero with a := 0x12, f := 0xFF, pc := 0x0102, r := 0x02 } [] = true := by decide
theorem test_V117_halt : steps [0x76] [] zero { zero with pc := 0x0101, r := 0x01, halted := true } []
    = true := by decide
theorem test_V119_di : steps [0xF3] [] { zero with iff1 := true, iff2 := true }
    { zero with iff1 := false, iff2 := false, pc := 0x0101, r := 0x01 } [] = true := by decide
theorem test_V120_ei : steps [0xFB] [] zero
    { zero with pc := 0x0101, r := 0x01, iff1 := true, iff2 := true } [] = true := by decide
theorem test_V121_im1 : steps [0xED, 0x56] [] { zero with im := .im0 }
    { zero with im := .im1, pc := 0x0102, r := 0x02 } [] = true := by decide
theorem test_V124_imY : steps [0xED, 0x7E] [] { zero with im := .im0 }
    { zero with im := .im2, pc := 0x0102, r := 0x02 } [] = true := by decide
theorem test_V127_addHlSs : steps [0x09] []
    { zero with h := 0x0F, l := 0xFF, b := 0x00, c := 0x01, a := 0x00, f := 0x02 }
    { zero with h := 0x10, l := 0x00, b := 0x00, c := 0x01, a := 0x00, f := 0x10, pc := 0x0101,
                wz := 0x1000, r := 0x01 } [] = true := by decide
theorem test_V130_adcHlSs : steps [0xED, 0x6A] [] { zero with h := 0x40, l := 0x00, a := 0x00, f := 0x00 }
    { zero with h := 0x80, l := 0x00, a := 0x00, f := 0x84, pc := 0x0102, wz := 0x4001, r := 0x02 } []
    = true := by decide
theorem test_V133_sbcHlSs : steps [0xED, 0x52] []
    { zero with h := 0x80, l := 0x00, d := 0x00, e := 0x01, a := 0x00, f := 0x00 }
    { zero with h := 0x7F, l := 0xFF, d := 0x00, e := 0x01, a := 0x00, f := 0x3E, pc := 0x0102,
                wz := 0x8001, r := 0x02 } [] = true := by decide
theorem test_V137_addXyPp : steps [0xDD, 0x29] [] { zero with ix := 0x0800, h := 0x11, l := 0x11 }
    { zero with ix := 0x1000, h := 0x11, l := 0x11, a := 0x00, f := 0x10, pc := 0x0102, wz := 0x0801,
                r := 0x02 } [] = true := by decide
theorem test_V139_incSs : steps [0x33] [] { zero with sp := 0x7FFF }
    { zero with sp := 0x8000, pc := 0x0101, r := 0x01 } [] = true := by decide
theorem test_V140_incXy : steps [0xDD, 0x23] [] { zero with ix := 0xFFFF }
    { zero with ix := 0x0000, pc := 0x0102, r := 0x02 } [] = true := by decide
theorem test_V141_decSs : steps [0x0B] [] { zero with b := 0x00, c := 0x00 }
    { zero with b := 0xFF, c := 0xFF, pc := 0x0101, r := 0x01 } [] = true := by decide
theorem test_V142_decXy : steps [0xFD, 0x2B] [] { zero with iy := 0x0000 }
    { zero with iy := 0xFFFF, pc := 0x0102, r := 0x02 } [] = true := by decide
theorem test_V143_rlca : steps [0x07] [] { zero with a := 0x80, f := 0xC4 }
    { zero with a := 0x01, f := 0xC5, pc := 0x0101, r := 0x01 } [] = true := by decide
theorem test_V144_rrca : steps [0x0F] [] { zero with a := 0x01, f := 0x00 }
    { zero with a := 0x80, f := 0x01, pc := 0x0101, r := 0x01 } [] = true := by decide
theorem test_V145_rla : steps [0x17] [] { zero with a := 0x80, f := 0x00 }
    { zero with a := 0x00, f := 0x01, pc := 0x0101, r := 0x01 } [] = true := by decide
theorem test_V146_rra : steps [0x1F] [] { zero with a := 0x01, f := 0x01 }
    { zero with a := 0x80, f := 0x01, pc := 0x0101, r := 0x01 } [] = true := by decide
theorem test_V147_rlcAtHl : steps [0xCB, 0x06] [(0x8000, 0x80)] { zero with h := 0x80, l := 0x00 }
    { zero with h := 0x80, l := 0x00, a := 0x00, f := 0x01, pc := 0x0102, r := 0x02 }
    [.memRead 0x8000 0x80, .memWrite 0x8000 0x01] = true := by decide
theorem test_V148_rrcR : steps [0xCB, 0x0F] [] { zero with a := 0x01, f := 0x00 }
    { zero with a := 0x80, f := 0x81, pc := 0x0102, r := 0x02 } [] = true := by decide
theorem test_V149_rlR : steps [0xCB, 0x17] [] { zero with a := 0x80, f := 0x01 }
    { zero with a := 0x01, f := 0x01, pc := 0x0102, r := 0x02 } [] = true := by decide
theorem test_V150_rrR : steps [0xCB, 0x18] [] { zero with b := 0x01, c := 0x00, a := 0x00, f := 0x00 }
    { zero with b := 0x00, c := 0x00, a := 0x00, f := 0x45, pc := 0x0102, r := 0x02 } [] = true := by decide
theorem test_V151_slaR : steps [0xCB, 0x27] [] { zero with a := 0xFF, f := 0x00 }
    { zero with a := 0xFE, f := 0xA9, pc := 0x0102, r := 0x02 } [] = true := by decide
theorem test_V152_sraR : steps [0xCB, 0x2F] [] { zero with a := 0x80, f := 0x00 }
    { zero with a := 0xC0, f := 0x84, pc := 0x0102, r := 0x02 } [] = true := by decide
theorem test_V155_sllAtHl : steps [0xCB, 0x36] [(0x8000, 0xFF)] { zero with h := 0x80, l := 0x00 }
    { zero with h := 0x80, l := 0x00, a := 0x00, f := 0xAD, pc := 0x0102, r := 0x02 }
    [.memRead 0x8000 0xFF, .memWrite 0x8000 0xFF] = true := by decide
theorem test_V156_srlR : steps [0xCB, 0x3F] [] { zero with a := 0xFF, f := 0x00 }
    { zero with a := 0x7F, f := 0x29, pc := 0x0102, r := 0x02 } [] = true := by decide
theorem test_V157_rrAtXyd : steps [0xDD, 0xCB, 0xFE, 0x1E] [(0x8000, 0x01)]
    { zero with ix := 0x8002, a := 0x00, f := 0x01 }
    { zero with ix := 0x8002, a := 0x00, f := 0x81, pc := 0x0104, wz := 0x8000, r := 0x02 }
    [.memRead 0x8000 0x01, .memWrite 0x8000 0x80] = true := by decide
theorem test_V158_srlAtXydR : steps [0xFD, 0xCB, 0x00, 0x3C] [(0x8000, 0x81)]
    { zero with iy := 0x8000, h := 0x12, l := 0x34 }
    { zero with iy := 0x8000, h := 0x40, l := 0x34, a := 0x00, f := 0x01, pc := 0x0104, wz := 0x8000,
                r := 0x02 } [.memRead 0x8000 0x81, .memWrite 0x8000 0x40] = true := by decide
theorem test_V159_rld : steps [0xED, 0x6F] [(0x8000, 0x34)]
    { zero with a := 0x12, f := 0x01, h := 0x80, l := 0x00 }
    { zero with a := 0x13, f := 0x01, h := 0x80, l := 0x00, pc := 0x0102, wz := 0x8001, r := 0x02 }
    [.memRead 0x8000 0x34, .memWrite 0x8000 0x42] = true := by decide
theorem test_V160_rrd : steps [0xED, 0x67] [(0xFFFF, 0x34)]
    { zero with a := 0x12, f := 0x00, h := 0xFF, l := 0xFF }
    { zero with a := 0x14, f := 0x04, h := 0xFF, l := 0xFF, pc := 0x0102, r := 0x02 }
    [.memRead 0xFFFF 0x34, .memWrite 0xFFFF 0x23] = true := by decide
theorem test_V161_bitBR : steps [0xCB, 0x47] [] { zero with a := 0xFE, f := 0x01 }
    { zero with a := 0xFE, f := 0x7D, pc := 0x0102, r := 0x02 } [] = true := by decide
theorem test_V164_bitBAtHl : steps [0xCB, 0x4E] [(0x8000, 0x02)]
    { zero with h := 0x80, l := 0x00, wz := 0xFF00 }
    { zero with h := 0x80, l := 0x00, wz := 0xFF00, a := 0x00, f := 0x38, pc := 0x0102, r := 0x02 }
    [.memRead 0x8000 0x02] = true := by decide
theorem test_V166_bitBAtXydZ : steps [0xDD, 0xCB, 0x10, 0x78] [(0x3800, 0x80)]
    { zero with ix := 0x37F0, b := 0x55, c := 0x55 }
    { zero with ix := 0x37F0, b := 0x55, c := 0x55, a := 0x00, f := 0xB8, pc := 0x0104, wz := 0x3800,
                r := 0x02 } [.memRead 0x3800 0x80] = true := by decide
theorem test_V167_setBAtHl : steps [0xCB, 0xC6] [(0x8000, 0xFE)] { zero with h := 0x80, l := 0x00 }
    { zero with h := 0x80, l := 0x00, pc := 0x0102, r := 0x02 }
    [.memRead 0x8000 0xFE, .memWrite 0x8000 0xFF] = true := by decide
theorem test_V169_resBR : steps [0xCB, 0xBF] [] { zero with a := 0xFF, f := 0x00 }
    { zero with a := 0x7F, f := 0x00, pc := 0x0102, r := 0x02 } [] = true := by decide
theorem test_V170_resBAtXyd : steps [0xFD, 0xCB, 0x7F, 0xBE] [(0x807F, 0xFF)] { zero with iy := 0x8000 }
    { zero with iy := 0x8000, pc := 0x0104, wz := 0x807F, r := 0x02 }
    [.memRead 0x807F 0xFF, .memWrite 0x807F 0x7F] = true := by decide
theorem test_V171_resBAtXydR : steps [0xDD, 0xCB, 0x00, 0x9A] [(0x8000, 0xFF)]
    { zero with ix := 0x8000, d := 0x00, e := 0x00 }
    { zero with ix := 0x8000, d := 0xF7, e := 0x00, pc := 0x0104, wz := 0x8000, r := 0x02 }
    [.memRead 0x8000 0xFF, .memWrite 0x8000 0xF7] = true := by decide
theorem test_V173_jpCcNn : steps [0xDA, 0x34, 0x12] [] { zero with a := 0x00, f := 0x01 }
    { zero with a := 0x00, f := 0x01, pc := 0x1234, wz := 0x1234, r := 0x01 } [] = true := by decide
theorem test_V174_jpCcNn : steps [0xF2, 0x34, 0x12] [] { zero with a := 0x00, f := 0x80 }
    { zero with a := 0x00, f := 0x80, pc := 0x0103, wz := 0x1234, r := 0x01 } [] = true := by decide
theorem test_V176_jpHl : steps [0xE9] [(0xFFFF, 0x55)] { zero with h := 0xFF, l := 0xFF }
    { zero with h := 0xFF, l := 0xFF, pc := 0xFFFF, r := 0x01 } [] = true := by decide
theorem test_V177_jpXy : steps [0xDD, 0xE9] [] { zero with ix := 0x8000, h := 0x40, l := 0x00 }
    { zero with ix := 0x8000, h := 0x40, l := 0x00, pc := 0x8000, r := 0x02 } [] = true := by decide
theorem test_V179_jr : steps [0x18, 0x80] [] zero { zero with pc := 0x0082, wz := 0x0082, r := 0x01 } []
    = true := by decide
theorem test_V182_jrCc : steps [0x20, 0x05] [] { zero with a := 0x00, f := 0x40 }
    { zero with a := 0x00, f := 0x40, pc := 0x0102, r := 0x01 } [] = true := by decide
theorem test_V185_djnz : steps [0x10, 0x05] [] { zero with b := 0x00, c := 0x00 }
    { zero with b := 0xFF, c := 0x00, pc := 0x0107, wz := 0x0107, r := 0x01 } [] = true := by decide
theorem test_V186_callNn : steps [0xCD, 0x00, 0x80] [] { zero with sp := 0x0000 }
    { zero with sp := 0xFFFE, pc := 0x8000, wz := 0x8000, r := 0x01 }
    [.memWrite 0xFFFF 0x01, .memWrite 0xFFFE 0x03] = true := by decide
theorem test_V187_callCcNn : steps [0xC4, 0x00, 0x80] [] { zero with a := 0x00, f := 0x40, sp := 0x9000 }
    { zero with a := 0x00, f := 0x40, sp := 0x9000, pc := 0x0103, wz := 0x8000, r := 0x01 } []
    = true := by decide
theorem test_V189_rstP : steps [0xEF] [] { zero with sp := 0x9000 }
    { zero with sp := 0x8FFE, pc := 0x0028, wz := 0x0028, r := 0x01 }
    [.memWrite 0x8FFF 0x01, .memWrite 0x8FFE 0x01] = true := by decide
theorem test_V191_ret : steps [0xC9] [(0x0000, 0x12), (0xFFFF, 0x34)] { zero with sp := 0xFFFF }
    { zero with sp := 0x0001, pc := 0x1234, wz := 0x1234, r := 0x01 }
    [.memRead 0xFFFF 0x34, .memRead 0x0000 0x12] = true := by decide
theorem test_V193_retCc : steps [0xD0] [(0x9000, 0x00), (0x9001, 0x80)]
    { zero with a := 0x00, f := 0x01, sp := 0x9000 }
    { zero with a := 0x00, f := 0x01, sp := 0x9000, pc := 0x0101, r := 0x01 } [] = true := by decide
theorem test_V194_retn : steps [0xED, 0x45] [(0x9000, 0x00), (0x9001, 0x80)]
    { zero with iff1 := true, iff2 := false, sp := 0x9000 }
    { zero with iff1 := false, iff2 := false, sp := 0x9002, pc := 0x8000, wz := 0x8000, r := 0x02 }
    [.memRead 0x9000 0x00, .memRead 0x9001 0x80] = true := by decide
theorem test_V195_retnY : steps [0xED, 0x7D] [(0x9000, 0x00), (0x9001, 0x80)]
    { zero with iff1 := false, iff2 := true, sp := 0x9000 }
    { zero with iff1 := true, iff2 := true, sp := 0x9002, pc := 0x8000, wz := 0x8000, r := 0x02 }
    [.memRead 0x9000 0x00, .memRead 0x9001 0x80] = true := by decide
theorem test_V196_reti : steps [0xED, 0x4D] [(0x9000, 0x00), (0x9001, 0x80)]
    { zero with iff1 := false, iff2 := true, sp := 0x9000 }
    { zero with iff1 := true, iff2 := true, sp := 0x9002, pc := 0x8000, wz := 0x8000, r := 0x02 }
    [.memRead 0x9000 0x00, .memRead 0x9001 0x80] = true := by decide
theorem test_V197_inAN : steps [0xDB, 0xFF] [] { zero with a := 0xFF, f := 0x00, portIn := [0x00] }
    { zero with a := 0x00, f := 0x00, portIn := [0x00], pc := 0x0102, r := 0x01 } [.portRead 0xFFFF 0x00]
    = true := by decide
theorem test_V198_inRC : steps [0xED, 0x40] []
    { zero with b := 0x12, c := 0xFE, a := 0x00, f := 0x01, portIn := [0x80] }
    { zero with b := 0x80, c := 0xFE, a := 0x00, f := 0x81, portIn := [0x80], pc := 0x0102, wz := 0x12FF,
                r := 0x02 } [.portRead 0x12FE 0x80] = true := by decide
theorem test_V200_inFC : steps [0xED, 0x70] []
    { zero with b := 0x00, c := 0xFE, a := 0x55, f := 0x00, portIn := [0x00] }
    { zero with b := 0x00, c := 0xFE, a := 0x55, f := 0x44, portIn := [0x00], pc := 0x0102, wz := 0x00FF,
                r := 0x02 } [.portRead 0x00FE 0x00] = true := by decide
theorem test_V201_outNA : steps [0xD3, 0xFE] [] { zero with a := 0xA5, f := 0x00 }
    { zero with a := 0xA5, f := 0x00, pc := 0x0102, wz := 0xA5FF, r := 0x01 } [.portWrite 0xA5FE 0xA5]
    = true := by decide
theorem test_V203_outCR : steps [0xED, 0x61] [] { zero with b := 0x00, c := 0xFE, h := 0xAB, l := 0x00 }
    { zero with b := 0x00, c := 0xFE, h := 0xAB, l := 0x00, pc := 0x0102, wz := 0x00FF, r := 0x02 }
    [.portWrite 0x00FE 0xAB] = true := by decide
theorem test_V204_outC0 : steps [0xED, 0x71] [] { zero with b := 0x00, c := 0xFE, a := 0xFF, f := 0x00 }
    { zero with b := 0x00, c := 0xFE, a := 0xFF, f := 0x00, pc := 0x0102, wz := 0x00FF, r := 0x02 }
    [.portWrite 0x00FE 0x00] = true := by decide
theorem test_V205_ini : steps [0xED, 0xA2] []
    { zero with b := 0x01, c := 0xFE, h := 0xFF, l := 0xFF, portIn := [0x00] }
    { zero with b := 0x00, c := 0xFE, h := 0x00, l := 0x00, portIn := [0x00], a := 0x00, f := 0x40,
                pc := 0x0102, wz := 0x01FF, r := 0x02 } [.portRead 0x01FE 0x00, .memWrite 0xFFFF 0x00]
    = true := by decide
theorem test_V208_ind : steps [0xED, 0xAA] []
    { zero with b := 0x10, c := 0xFE, h := 0x80, l := 0x00, portIn := [0xFF] }
    { zero with b := 0x0F, c := 0xFE, h := 0x7F, l := 0xFF, portIn := [0xFF], a := 0x00, f := 0x1B,
                pc := 0x0102, wz := 0x10FD, r := 0x02 } [.portRead 0x10FE 0xFF, .memWrite 0x8000 0xFF]
    = true := by decide
theorem test_V209_indr : steps [0xED, 0xBA] []
    { zero with b := 0x02, c := 0xFE, h := 0x80, l := 0x00, portIn := [0x01] }
    { zero with b := 0x01, c := 0xFE, h := 0x7F, l := 0xFF, portIn := [0x01], wz := 0x02FD, r := 0x02 }
    [.portRead 0x02FE 0x01, .memWrite 0x8000 0x01] = true := by decide
theorem test_V210_outi : steps [0xED, 0xA3] [(0x8000, 0xFF)]
    { zero with b := 0x02, c := 0xFE, h := 0x80, l := 0x00 }
    { zero with b := 0x01, c := 0xFE, h := 0x80, l := 0x01, a := 0x00, f := 0x13, pc := 0x0102,
                wz := 0x01FF, r := 0x02 } [.memRead 0x8000 0xFF, .portWrite 0x01FE 0xFF] = true := by decide
theorem test_V212_outd : steps [0xED, 0xAB] [(0x0000, 0x00)]
    { zero with b := 0x01, c := 0xFE, h := 0x00, l := 0x00 }
    { zero with b := 0x00, c := 0xFE, h := 0xFF, l := 0xFF, a := 0x00, f := 0x40, pc := 0x0102,
                wz := 0x00FD, r := 0x02 } [.memRead 0x0000 0x00, .portWrite 0x00FE 0x00] = true := by decide
theorem test_V214_hole : stops 0x0100 [0xED, 0x00]
    [.memRead 0x0100 0xED, .memRead 0x0101 0x00] = true := by decide
theorem test_V219_secondPfx : stops 0x0100 [0xFD, 0xED]
    [.memRead 0x0100 0xFD, .memRead 0x0101 0xED] = true := by decide
theorem test_V220_redundant : stops 0x0100 [0xDD, 0x00]
    [.memRead 0x0100 0xDD, .memRead 0x0101 0x00] = true := by decide

/-- Program P7 of 95_test_vectors.md section 3: the fault at 0x0002, with its two reads on the record. -/
theorem test_P7_fault : stops 0x0002 [0xED, 0x00] [.memRead 0x0002 0xED, .memRead 0x0003 0x00] = true := by decide


/-! ## Witnesses: states and operands that meet the hypotheses of the statements -/

/-- From a decidable fact about the next state, the existence of that state. -/
theorem nextSat {x : Result} {p : State → Prop} [DecidablePred p]
    (h : (match x with | .next t => decide (p t) | .fault _ => false | .refused _ => false) = true) :
    ∃ t, x = .next t ∧ p t := by
  cases x with
  | next t => exact ⟨t, rfl, of_decide_eq_true h⟩
  | fault _ => exact absurd h Bool.false_ne_true
  | refused _ => exact absurd h Bool.false_ne_true

/-! ### The environment inside an instruction (00_scope.md R10, 20_memory.md R67, 60_exceptions.md R402, R432) -/

/-- `LD A,(HL)` with HL its own address; the byte changes between the fetch and the read. -/
theorem test_R67_changed_inside :
    ∃ t, step (place { zero with h := 0x01, l := 0x00, inside := [[], [], [.changeByte 0x0100 0x5A]] } [0x7E] [])
        = .next t ∧
      (t.a = 0x5A ∧ t.bus.reverse = [.memRead 0x0100 0x7E, .memRead 0x0100 0x5A] ∧ t.pc = 0x0101) :=
  nextSat (by decide)

/-- `LD B,n`: PC queried inside the read of the opcode, inside its charge, inside the read of the operand. -/
theorem test_R432_query_inside :
    ∃ t, step (place { zero with inside := [[.queryPc], [.queryPc], [.queryPc]] } [0x06, 0xFF] []) = .next t ∧
      ((t.trace.reverse.filter fun o => !o.isOp) =
          [.pcQuery 0x0100, .tick 4, .pcQuery 0x0101, .pcQuery 0x0101, .tick 3] ∧ t.b = 0xFF) :=
  nextSat (by decide)

/-- A signal asserted inside the charge of an idle step is served at that step's boundary. -/
theorem test_R402_signal_inside :
    ∃ t, step { zero with halted := true, iff1 := true, inside := [[.assertIrqA]] } = .next t ∧
      (t.pc = 0x0038 ∧ t.halted = false ∧ t.req.irqA = true) :=
  nextSat (by decide)

/-- The host's way of placing an instruction: `INC A` (A is 0xFF after cold start) and `SET 0,(IX+127),A`. -/
theorem test_withFetchWord :
    (∃ t, step (State.reset.withFetchWord 8 0b00111100) = .next t ∧ (t.a = 0x00 ∧ t.pc = 0x0001)) ∧
    (∃ t, step (State.reset.withFetchWord 32 0b11000111_01111111_11001011_11011101) = .next t ∧
      (t.a = 0x01 ∧ t.pc = 0x0004 ∧ t.mem = [(0, 0xDD), (1, 0xCB), (2, 0x7F), (3, 0xC7), (0x7F, 0x01)])) :=
  ⟨nextSat (by decide), nextSat (by decide)⟩

/-- Memory listed at both ends of the address space, an instruction that stores at PC. -/
def busy : State := place { zero with sp := 0x0001, a := 0x12, f := 0xD7 } [0xF5] [(0xFFFF, 0x80), (0x0000, 0x01)]

/-- Interrupts enabled, both maskable requests pending. -/
def enabled : State :=
  { zero with iff1 := true, iff2 := true, sp := 0x0001, i := 0x80,
              req := { Req.empty with irqA := true, irqB := true } }

/-- A non-maskable request of each source, alone and together. -/
def nmiOnly (dbg other : Bool) : State :=
  { enabled with req := { Req.empty with nmiDebug := dbg, nmiOther := other } }

/-- The hypothesis of StoreToMemory8, PairMemory, PushPop, Exchanges, BlockTransfer, BlockTransferRepeat,
IncDecMemory, RotateOperand, RotateIndexed, DigitRotates, BitOperations, BitIndexed, CallsReturns and
BlockInputOutput; `Quiet` alone is that of the other statements about one instruction. -/
theorem witness_Canonical : State.reset.Canonical ∧ busy.Canonical ∧ busy.Quiet ∧ busy.mem ≠ [] := by
  refine ⟨rfl, ?_, rfl, ?_⟩
  · unfold State.Canonical; decide
  · decide

theorem witness_StepKeepsCanonical : busy.Canonical ∧ ∃ t, step busy = .next t ∧ t.mem ≠ busy.mem :=
  ⟨witness_Canonical.2.1, nextSat (by decide)⟩

theorem witness_DecodeEncode : Instr.wellFormed (.setBAtXydR 7#3 .iy 0x80#8 .a) = true ∧
    Instr.wellFormed (.bitBAtXydZ 0#3 .ix 0x7F#8 7#3) = true ∧
    Instr.wellFormed (.ldAtNnDd 0xFFFF#16 .sp) = true := by decide

theorem witness_EncodeDecode : decode ⟨0xED#8, 0x7B#8, 0xFF#8, 0x00#8⟩ =
    .ok { instr := .ldDdAtNn .sp 0x00FF#16, redundant := false } := rfl

/-- Whether the decoder reports a hole after 0xED. -/
def hole (b1 : Byte) : Bool :=
  match decode ⟨0xED#8, b1, 0#8, 0#8⟩ with
  | .error (.edHole bs) => bs == [0xED#8, b1]
  | _ => false

/-- Both sides of every boundary of NoHandler's first clause. -/
theorem witness_NoHandler_hole :
    ([0x00, 0x3F, 0x80, 0x9F, 0xA4, 0xA7, 0xAC, 0xAF, 0xB4, 0xB7, 0xBC, 0xFF].all fun b => hole b) = true ∧
    ([0x40, 0x7F, 0xA0, 0xA3, 0xA8, 0xAB, 0xB0, 0xB3, 0xB8, 0xBB].all fun b => !hole b) = true := by decide

theorem witness_NoHandler_secondPfx :
    decode ⟨0xDD#8, 0xFD#8, 0#8, 0#8⟩ = .error (.secondPfx [0xDD#8, 0xFD#8]) ∧
    decode ⟨0xFD#8, 0xED#8, 0x44#8, 0#8⟩ = .error (.secondPfx [0xFD#8, 0xED#8]) := ⟨rfl, rfl⟩

theorem witness_ImplSelects :
    decodeWith ⟨true, true, true⟩ ⟨0xDD#8, 0x04#8, 0#8, 0#8⟩ = .ok { instr := .incR .b, redundant := true } ∧
    Impl.has ⟨true, true, false⟩ .redundantPfx = false ∧
    decodeWith ⟨true, true, false⟩ ⟨0xCB#8, 0x30#8, 0#8, 0#8⟩ =
      .ok { instr := .sllR .b, redundant := false } ∧
    Impl.has ⟨true, false, false⟩ (Instr.klass (.sllR .b)) = false ∧
    Impl.has ⟨false, true, false⟩ (Instr.klass (.sllR .b)) = true := ⟨rfl, rfl, rfl, rfl, rfl⟩

theorem witness_StepRunsDecoded : busy.arrive.halted = false ∧
    decode (Window.ofList busy.arrive.fetch.1) = .ok { instr := .pushQq .af, redundant := false } := ⟨rfl, rfl⟩

/-- Also at the top of the address space, where the bytes wrap. -/
def wrapped : State := place { zero with pc := 0xFFFE } [0xDD, 0x36, 0x7F, 0x5A] []

theorem witness_StepRunsEncoded : Instr.wellFormed (.ldAtXydN .ix 0x7F#8 0x5A#8) = true ∧
    wrapped.arrive.halted = false ∧ wrapped.inside = [] ∧
    wrapped.arrive.fetch.1 = encode (.ldAtXydN .ix 0x7F#8 0x5A#8) ∧
    ∀ n, n < (encode (.ldAtXydN .ix 0x7F#8 0x5A#8)).length →
      wrapped.arrive.peek (wrapped.arrive.pc + BitVec.ofNat 16 n) =
        byteAt (encode (.ldAtXydN .ix 0x7F#8 0x5A#8)) n := by decide

theorem witness_IdleStep : State.arrive { zero with halted := true } = { zero with halted := true } := rfl

/-- Both outcomes of FetchAdvances and StopsOnlyByDecodeFault: bytes with a handler and a hole. -/
theorem witness_StopsOnlyByDecodeFault :
    decode (Window.ofList wrapped.fetch.1) = .ok { instr := .ldAtXydN .ix 0x7F#8 0x5A#8, redundant := false } ∧
    step (place zero [0xED, 0x3F] []) =
      .fault (.decodeFault 0x0100 [0xED, 0x3F]
        [.tick 4, .memRead 0x0101 0x3F, .tick 4, .memRead 0x0100 0xED]) := ⟨rfl, rfl⟩

/-- One instruction for each clause of RegisterWriters' first part. -/
theorem witness_RegisterWriters :
    (∃ t, exec .di enabled = .next t ∧ (t.iff1 ≠ enabled.iff1 ∧ t.iff2 ≠ enabled.iff2)) ∧
    (∃ t, exec (.retnY 7#3) { enabled with iff1 := false } = .next t ∧ t.iff1 = true) ∧
    (∃ t, exec (.imY 7#3) enabled = .next t ∧ t.im ≠ enabled.im) ∧
    (∃ t, exec .ldIA enabled = .next t ∧ t.i ≠ enabled.i) ∧
    (∃ t, exec .ldRA { enabled with a := 0xFF } = .next t ∧ t.r ≠ enabled.r) ∧
    (∃ t, exec .exAfAf busy = .next t ∧ t.af' ≠ busy.af') ∧
    (∃ t, exec .exx { zero with b := 1 } = .next t ∧ t.bc' ≠ zero.bc') :=
  ⟨nextSat (by decide), nextSat (by decide), nextSat (by decide), nextSat (by decide), nextSat (by decide),
    nextSat (by decide), nextSat (by decide)⟩

/-- An instruction outside each list of the whole-machine rules. -/
theorem witness_writers :
    Instr.writesPc (.ldSpHl) = false ∧ Instr.writesSp (.jr 0#8) = false ∧
    Instr.writesFlags (.incSs .sp) = false ∧ Instr.writesMem (.ret) = false ∧
    Instr.portOnly (.pushQq .af) = false ∧ Instr.writesMem (.exDeHl) = false ∧
    Instr.readsMemOnly (.exDeHl) = false ∧ Instr.portOnly (.exDeHl) = false ∧
    ∃ t, exec .exDeHl busy = .next t ∧ t.trace = busy.trace :=
  ⟨rfl, rfl, rfl, rfl, rfl, rfl, rfl, rfl, nextSat (by decide)⟩

theorem witness_NmiService : (nmiOnly true true).Canonical ∧ (nmiOnly true true).Quiet ∧
    (nmiOnly true false).req.reset = false ∧ (nmiOnly true false).req.nmiDebug = true ∧
    (nmiOnly false true).req.nmiOther = true := ⟨rfl, rfl, rfl, rfl, rfl⟩

/-- Both clauses of IrqService: a state in mode 0, one in mode 2. -/
theorem witness_IrqService : enabled.Canonical ∧ enabled.Quiet ∧ enabled.req.reset = false ∧ enabled.req.nmiDebug = false ∧
    enabled.req.nmiOther = false ∧ enabled.req.irqA = true ∧ enabled.iff1 = true ∧ enabled.irqDelay = false ∧
    enabled.im ≠ .im2 ∧ State.im { enabled with im := .im2 } = .im2 := by
  refine ⟨rfl, rfl, ?_⟩
  decide

theorem witness_ResetService : (enabled.act .requestReset).Quiet ∧ State.req (enabled.act .requestReset) = { enabled.req with reset := true } := ⟨rfl, rfl⟩

/-- The three alternatives of BoundaryPriority's second clause, and its third clause. -/
theorem witness_BoundaryPriority :
    (zero.req.reset = false ∧ zero.req.nmiDebug = false ∧ zero.req.nmiOther = false ∧
      zero.req.irqA = false ∧ zero.req.irqB = false) ∧
    (State.iff1 { enabled with iff1 := false } = false ∧
      State.irqDelay { enabled with irqDelay := true } = true ∧ enabled.req.nmiDebug = false) ∧
    ((nmiOnly false true).inside = [] ∧ (nmiOnly false true).req.reset = false ∧
      (nmiOnly false true).req.nmiOther = true) := by decide

/-- A maskable request that comes inside the coming fetch. -/
def late : State := { enabled with req := Req.empty, inside := [[], [.assertIrqB]] }

/-- Both clauses of EiShadow: `EI` at PC with a request pending; `NOP` at PC and the request inside its fetch. -/
theorem witness_EiShadow :
    (let s := place enabled [0xFB] []
     s.arrive.halted = false ∧
      decode (Window.ofList s.arrive.fetch.1) = .ok { instr := .ei, redundant := false } ∧
      s.arrive.fetch.2.req.reset = false ∧ s.arrive.fetch.2.req.nmiDebug = false ∧
      s.arrive.fetch.2.req.nmiOther = false ∧ s.arrive.fetch.2.req.irqA = true) ∧
    (late.arrive.halted = false ∧ late.arrive.irqDelay = false ∧
      decode (Window.ofList late.arrive.fetch.1) = .ok { instr := .nop, redundant := false } ∧
      ∃ t, exec .nop late.arrive.fetch.2 = .next t ∧ (t.iff1 = true ∧ t.req = { Req.empty with irqB := true })) :=
  ⟨⟨rfl, rfl, rfl, rfl, rfl, rfl⟩, rfl, rfl, rfl, nextSat (by decide)⟩

/-- The three hypotheses on the coming moments in Signals. -/
theorem witness_Signals : late.inside = [] :: [[.assertIrqB]] ∧
    State.inside { zero with inside := [[.queryPc]] } = [.queryPc] :: [] ∧
    State.inside { zero with inside := [[], [.queryPc]] } = [] :: [.queryPc] :: [] ∧ late.Canonical :=
  ⟨rfl, rfl, rfl, rfl⟩

/-- EnvironmentOnlyAnswers: an instruction inside which memory changes, a boundary without a vector and one with
a vector, bytes of it changing inside. -/
theorem witness_EnvironmentOnlyAnswers :
    (∃ t, exec .ret { zero with inside := [[], [.changeByte 0x0001 0x80]] } = .next t ∧ t.pc = 0x8000) ∧
    late.req.irqA = false ∧
    (let s := { enabled with im := .im2, inside := [[], [], [], [], [], [.changeByte 0x80FF 0x12]] }
     State.req s = enabled.req ∧ enabled.req.irqA = true ∧ (State.boundary s).pc = 0x0012) := by
  refine ⟨nextSat (by decide), rfl, rfl, rfl, ?_⟩
  decide

/-- The first two clauses of HandlerRoundTrip have the hypotheses of NmiService and IrqService. -/
theorem witness_HandlerRoundTrip : (nmiOnly true false).Canonical ∧ (nmiOnly true false).Quiet ∧ (nmiOnly true false).req.reset = false ∧
    (nmiOnly true false).req.nmiDebug = true ∧ enabled.Canonical ∧ enabled.Quiet ∧ enabled.iff1 = true ∧
    enabled.req.irqB = true ∧ enabled.irqDelay = false := ⟨rfl, rfl, rfl, rfl, rfl, rfl, rfl, rfl, rfl⟩

theorem witness_LoadRegister8 : Reg8X.b ≠ .xh ∧ Reg8X.b ≠ .xl ∧ Reg8X.a ≠ .xh ∧ Reg8X.a ≠ .xl := by decide

theorem witness_DecimalResult : (0 ≤ 9 ∧ 9 ≤ 9 : Prop) := by decide

theorem witness_undocumented_fields :
    (1#3 ≠ 0#3 ∧ 7#3 ≠ 0#3) ∧ (4#3 = 1#3 ∨ 4#3 = 4#3 ∨ 4#3 = 5#3) ∧
    (2#3 ≠ 0#3 ∧ 2#3 ≠ 1#3 ∧ 7#3 ≠ 0#3 ∧ 7#3 ≠ 1#3) ∧ (0#3 ≠ 6#3 ∧ 7#3 ≠ 6#3) := by decide

theorem witness_CallsReturns : State.cond { zero with f := 0x40 } .z = true ∧ zero.cond .z = false := by decide

/-- RelativeJumps: `sext_8` at 0x7F and 0x80, where its two clauses meet, and the target of a jump there
(30_encoding.md R97). -/
theorem witness_RelativeJumps : zero.Quiet ∧ (0x7F#8).toNat < 0x80 ∧ ¬ (0x80#8).toNat < 0x80 ∧
    sext8 0x7F = 0x007F ∧ sext8 0x80 = 0xFF80 ∧
    (∃ t, exec (.jr 0x7F) { zero with pc := 0x1000 } = .next t ∧ t.pc = 0x107F) ∧
    (∃ t, exec (.jr 0x80) { zero with pc := 0x1000 } = .next t ∧ t.pc = 0x0F80) :=
  ⟨rfl, by decide, by decide, by decide, by decide, nextSat (by decide), nextSat (by decide)⟩

/-- A write through a selector: `H` not `L`, `DE` not `BC`, `AF` in `rp2`, `IX` not `IY`, one half of it
(10_state.md R21, 30_encoding.md R95). -/
theorem test_selector_writes :
    zero.setR8 .h 0x12 = { zero with h := 0x12 } ∧ zero.setRp .de 0x1234 = { zero with d := 0x12, e := 0x34 } ∧
    zero.setRp2 .af 0x1234 = { zero with a := 0x12, f := 0x34 } ∧
    zero.setXy .ix 0x1234 = { zero with ix := 0x1234 } ∧
    (zero.setXy .iy 0x1234).setP8 .iy .xl 0x56 = { zero with iy := 0x1256 } := by decide

/-- `IOBLKF` at the two sides of its bounds (49_input_output.md R347), computed by hand: the sum 0xFF and 0x100,
bit 7 of the byte clear and set, B reaching 0 and not. -/
theorem test_ioBlockF : ioBlockF 0x7F 0xFF 0x00 = 0x40 ∧ ioBlockF 0x80 0x100 0xA8 = 0xBB ∧
    blockPortFlags 0x7F 0xFF 0x00 = 0x40 ∧ blockPortFlags 0x80 0x100 0xA8 = 0xBB := by decide

/-- The two answers a port read can get in InputOutput; the two cases of what comes first in Signals; the last
clause of ResetCanonical. -/
theorem witness_environment_lists : State.portIn { zero with portIn := [0x12] } = 0x12 :: [] ∧ zero.portIn = [] ∧
    State.env { zero with env := [[.assertIrqA]] } = [.assertIrqA] :: [] ∧ zero.env = [] ∧
    zero.Canonical ∧ ∀ a, zero.peek a = State.peek { zero with a := 0x12 } a := ⟨rfl, rfl, rfl, rfl, rfl, fun _ => rfl⟩

end Sys2Proof.Tests
end

section
/-! SUPPORT. The tables of 40_alu_flag_tables.md R134 and R135 against integer arithmetic, for operands of every
width: `HC_ADD` is the carry out of a bit, `OV_ADD` two's complement overflow. A subtraction is the addition of
its result and its subtrahend, so the two other tables need no argument of their own. -/

namespace Sys2Proof.Machine

theorem ofNat_add_add {w : Nat} (a b : BitVec w) (c : Bool) :
    BitVec.ofNat w (a.toNat + b.toNat + c.toNat) = a + b + BitVec.ofNat w c.toNat := by
  simp [BitVec.ofNat_add]

theorem toInt_eq_toNat_sub_msb {w : Nat} (x : BitVec w) :
    x.toInt = x.toNat - (2 ^ w : Nat) * (x.msb.toNat : Int) := by
  rw [BitVec.toInt_eq_msb_cond]
  cases x.msb <;> simp

section

variable {w k : Nat} {a b r : BitVec w} {c : Bool}

/-- Reading a table of R134 for a subtraction is reading the one for the addition that undoes it. -/
theorem hcSub_tableIdx : hcSub (tableIdx k a b r) = hcAdd (tableIdx k r b a) := by
  unfold tableIdx
  cases a.getLsbD k <;> cases b.getLsbD k <;> cases r.getLsbD k <;> rfl

/-- The same for R135. -/
theorem ovSub_tableIdx : ovSub (tableIdx k a b r) = ovAdd (tableIdx k r b a) := by
  unfold tableIdx
  cases a.getLsbD k <;> cases b.getLsbD k <;> cases r.getLsbD k <;> rfl

/-- `OV_ADD` compares the top bits of the operands with the result's and the carry out of them. -/
theorem ovAdd_tableIdx : ovAdd (tableIdx k a b r) = true ↔
    (a.getLsbD k).toNat + (b.getLsbD k).toNat ≠ (r.getLsbD k).toNat + (hcAdd (tableIdx k a b r)).toNat := by
  unfold tableIdx
  cases a.getLsbD k <;> cases b.getLsbD k <;> cases r.getLsbD k <;> decide

variable (hr : r = a + b + BitVec.ofNat w c.toNat)
include hr

theorem hcAdd_eq_carry (hk : k < w) : hcAdd (tableIdx k a b r) = BitVec.carry (k + 1) a b c := by
  have hc : BitVec.ofNat w c.toNat = (BitVec.ofBool c).setWidth w := by
    apply BitVec.eq_of_toNat_eq
    cases c <;> simp
  have hbit : r.getLsbD k = (a.getLsbD k ^^ (b.getLsbD k ^^ BitVec.carry k a b c)) := by
    rw [hr, hc, BitVec.getLsbD_add_add_bool hk]
  rw [BitVec.carry_succ, tableIdx, hbit]
  cases a.getLsbD k <;> cases b.getLsbD k <;> cases BitVec.carry k a b c <;> rfl

theorem hcAdd_iff_carry (hk : k < w) :
    hcAdd (tableIdx k a b r) = true ↔
      2 ^ (k + 1) ≤ a.toNat % 2 ^ (k + 1) + b.toNat % 2 ^ (k + 1) + c.toNat := by
  rw [hcAdd_eq_carry hr hk, BitVec.carry, decide_eq_true_iff]

/-- The sum and the carry out of its top bit together are the sum of the numbers. -/
theorem toNat_add_carry :
    r.toNat + 2 ^ w * (BitVec.carry w a b c).toNat = a.toNat + b.toNat + c.toNat := by
  have hmod : r.toNat = (a.toNat + b.toNat + c.toNat) % 2 ^ w := by
    rw [hr, ← ofNat_add_add, BitVec.toNat_ofNat]
  have := a.isLt
  have := b.isLt
  have := c.toNat_le
  rw [BitVec.carry_width, hmod]
  by_cases h : 2 ^ w ≤ a.toNat + b.toNat + c.toNat
  · rw [decide_eq_true h, Nat.mod_eq_sub_mod h, Nat.mod_eq_of_lt (by omega), Bool.toNat_true, Nat.mul_one,
      Nat.sub_add_cancel h]
  · rw [decide_eq_false h, Nat.mod_eq_of_lt (by omega)]
    simp

/-- The low bits of a sum, seen from the sum: there was a carry out of them when they are less than what was
added. -/
theorem hcAdd_iff_borrow (hk : k < w) :
    hcAdd (tableIdx k a b r) = true ↔
      r.toNat % 2 ^ (k + 1) < b.toNat % 2 ^ (k + 1) + c.toNat := by
  have hdvd : 2 ^ (k + 1) ∣ 2 ^ w := Nat.pow_dvd_pow 2 hk
  have hmod : r.toNat % 2 ^ (k + 1) =
      (a.toNat % 2 ^ (k + 1) + b.toNat % 2 ^ (k + 1) + c.toNat) % 2 ^ (k + 1) := by
    rw [hr, ← ofNat_add_add, BitVec.toNat_ofNat, Nat.mod_mod_of_dvd _ hdvd]
    simp [Nat.add_mod]
  have hpos : 0 < 2 ^ (k + 1) := Nat.two_pow_pos _
  have := Nat.mod_lt a.toNat hpos
  have := Nat.mod_lt b.toNat hpos
  have := c.toNat_le
  rw [hcAdd_iff_carry hr hk, hmod]
  generalize 2 ^ (k + 1) = m at *
  generalize a.toNat % m = x at *
  generalize b.toNat % m = y at *
  by_cases h : m ≤ x + y + c.toNat
  · rw [Nat.mod_eq_sub_mod h, Nat.mod_eq_of_lt (by omega)]
    omega
  · rw [Nat.mod_eq_of_lt (by omega)]
    omega

/-- `OV_ADD` at the top bit: the signed sum is not the sum of the signed numbers. Both differ by the weight of
the top bit times what the table compares. -/
theorem ovAdd_iff_overflow (hw : 0 < w) :
    ovAdd (tableIdx (w - 1) a b r) = true ↔ r.toInt ≠ a.toInt + b.toInt + c.toNat := by
  have hcarry : hcAdd (tableIdx (w - 1) a b r) = BitVec.carry w a b c := by
    rw [hcAdd_eq_carry hr (by omega), Nat.sub_add_cancel hw]
  have hdiff : r.toInt - (a.toInt + b.toInt + c.toNat) = (2 ^ w : Nat) *
      ((a.msb.toNat + b.msb.toNat : Int) - (r.msb.toNat + (BitVec.carry w a b c).toNat)) := by
    have hsum : (r.toNat + (2 ^ w : Nat) * (BitVec.carry w a b c).toNat : Int) =
      a.toNat + b.toNat + c.toNat := mod_cast toNat_add_carry hr
    simp only [toInt_eq_toNat_sub_msb]
    linear_combination hsum
  have hpos : ((2 ^ w : Nat) : Int) ≠ 0 := mod_cast (Nat.two_pow_pos w).ne'
  rw [ovAdd_tableIdx, hcarry, ← BitVec.msb_eq_getLsbD_last, ← BitVec.msb_eq_getLsbD_last,
    ← BitVec.msb_eq_getLsbD_last, ← sub_ne_zero (a := r.toInt), hdiff, mul_ne_zero_iff, sub_ne_zero]
  exact ⟨fun h => ⟨hpos, mod_cast h⟩, fun h => mod_cast h.2⟩

end

section

variable {w k : Nat} {a b r : BitVec w} {c : Bool} (hr : r = a - b - BitVec.ofNat w c.toNat)
include hr

theorem minuend_eq_add : a = r + b + BitVec.ofNat w c.toNat := by
  rw [hr]
  ring

/-- `HC_SUB` is the borrow out of bit `k`. -/
theorem hcSub_iff_borrow (hk : k < w) :
    hcSub (tableIdx k a b r) = true ↔ a.toNat % 2 ^ (k + 1) < b.toNat % 2 ^ (k + 1) + c.toNat := by
  rw [hcSub_tableIdx, hcAdd_iff_borrow (minuend_eq_add hr) hk]

/-- `OV_SUB` at the top bit: the signed difference is not the difference of the signed numbers. -/
theorem ovSub_iff_overflow (hw : 0 < w) :
    ovSub (tableIdx (w - 1) a b r) = true ↔ r.toInt ≠ a.toInt - b.toInt - c.toNat := by
  rw [ovSub_tableIdx, ovAdd_iff_overflow (minuend_eq_add hr) hw]
  omega

end

end Sys2Proof.Machine
end

section
/-! SUPPORT. The five adders and subtracters (40_alu_flag_tables.md R136, R137, R141 to R143): one shape of the flag
byte for each kind, read flag by flag, and the proof of AddSubArithmetic. -/

namespace Sys2Proof.Machine

/-! ## The shapes of the flag byte -/

/-- The flag byte that writes every flag: S and bits 5 and 3 are those of `v`, the others are given. -/
def allF (v : Byte) (z h p n c : Bool) : Byte :=
  (v &&& 0xA8#8) ||| bitAt 6 z ||| bitAt 4 h ||| bitAt 2 p ||| bitAt 1 n ||| bitAt 0 c

/-- The flag byte of ADD16, which keeps S, Z and P of `old`. -/
def keepSZPF (old v : Byte) (h c : Bool) : Byte :=
  (old &&& 0xC4#8) ||| (v &&& 0x28#8) ||| bitAt 4 h ||| bitAt 0 c

theorem getElem_bitAt {k : Nat} (hk : k < 8) (b : Bool) (j : Nat) (hj : j < 8) :
    (bitAt k b)[j] = (decide (j = k) && b) := by
  rw [← BitVec.getLsbD_eq_getElem, getLsbD_bitAt hk]

section

variable (old v : Byte) (z h p n c : Bool)

@[simp] theorem flagS_allF : flagS (allF v z h p n c) = v.msb := by
  simp [flagS, allF, getElem_bitAt, BitVec.msb_eq_getLsbD_last]
@[simp] theorem flagZ_allF : flagZ (allF v z h p n c) = z := by simp [flagZ, allF, getElem_bitAt]
@[simp] theorem flagY_allF : flagY (allF v z h p n c) = flagY v := by simp [flagY, allF, getElem_bitAt]
@[simp] theorem flagH_allF : flagH (allF v z h p n c) = h := by simp [flagH, allF, getElem_bitAt]
@[simp] theorem flagX_allF : flagX (allF v z h p n c) = flagX v := by simp [flagX, allF, getElem_bitAt]
@[simp] theorem flagP_allF : flagP (allF v z h p n c) = p := by simp [flagP, allF, getElem_bitAt]
@[simp] theorem flagN_allF : flagN (allF v z h p n c) = n := by simp [flagN, allF, getElem_bitAt]
@[simp] theorem flagC_allF : flagC (allF v z h p n c) = c := by simp [flagC, allF, getElem_bitAt]

@[simp] theorem flagS_keepSZPF : flagS (keepSZPF old v h c) = flagS old := by
  simp [flagS, keepSZPF, getElem_bitAt]
@[simp] theorem flagZ_keepSZPF : flagZ (keepSZPF old v h c) = flagZ old := by
  simp [flagZ, keepSZPF, getElem_bitAt]
@[simp] theorem flagY_keepSZPF : flagY (keepSZPF old v h c) = flagY v := by
  simp [flagY, keepSZPF, getElem_bitAt]
@[simp] theorem flagH_keepSZPF : flagH (keepSZPF old v h c) = h := by simp [flagH, keepSZPF, getElem_bitAt]
@[simp] theorem flagX_keepSZPF : flagX (keepSZPF old v h c) = flagX v := by
  simp [flagX, keepSZPF, getElem_bitAt]
@[simp] theorem flagP_keepSZPF : flagP (keepSZPF old v h c) = flagP old := by
  simp [flagP, keepSZPF, getElem_bitAt]
@[simp] theorem flagN_keepSZPF : flagN (keepSZPF old v h c) = false := by
  simp [flagN, keepSZPF, getElem_bitAt]
@[simp] theorem flagC_keepSZPF : flagC (keepSZPF old v h c) = c := by simp [flagC, keepSZPF, getElem_bitAt]

end

/-- Bytes with the same bits 5 and 3, in the mask the rules of file 40 write. -/
theorem and_yx_eq {f g : Byte} (hy : flagY f = flagY g) (hx : flagX f = flagX g) :
    f &&& 0x28#8 = g &&& 0x28#8 := by
  simp only [flagY, flagX] at hy hx
  apply flags_ext <;> simp_all [flagS, flagZ, flagY, flagH, flagX, flagP, flagN, flagC]

/-- Bytes with the same S, Z and P, in the mask of R141. -/
theorem and_szp_eq {f g : Byte} (hs : flagS f = flagS g) (hz : flagZ f = flagZ g) (hp : flagP f = flagP g) :
    f &&& 0xC4#8 = g &&& 0xC4#8 := by
  simp only [flagS, flagZ, flagP] at hs hz hp
  apply flags_ext <;> simp_all [flagS, flagZ, flagY, flagH, flagX, flagP, flagN, flagC]

@[simp] theorem allF_yx (v : Byte) (z h p n c : Bool) : allF v z h p n c &&& 0x28#8 = v &&& 0x28#8 :=
  and_yx_eq (by simp) (by simp)

@[simp] theorem keepSZPF_yx (old v : Byte) (h c : Bool) : keepSZPF old v h c &&& 0x28#8 = v &&& 0x28#8 :=
  and_yx_eq (by simp) (by simp)

@[simp] theorem keepSZPF_szp (old v : Byte) (h c : Bool) : keepSZPF old v h c &&& 0xC4#8 = old &&& 0xC4#8 :=
  and_szp_eq (by simp) (by simp) (by simp)

@[simp] theorem msb_hi8 (v : Word) : (hi8 v).msb = v.msb := by
  simp [BitVec.msb_eq_getLsbD_last, hi8]

/-! ## The primitives in these shapes -/

theorem add8_eq (a b : Byte) (cin : Bool) :
    let r := a + b + BitVec.ofNat 8 cin.toNat
    add8 a b cin = (r, allF r (r == 0#8) (hcAdd (tableIdx 3 a b r)) (ovAdd (tableIdx 7 a b r)) false
      (decide (256 ≤ a.toNat + b.toNat + cin.toNat))) := by
  simp [add8, allF, sz53, ofNat_add_add, bitAt]

theorem sub8_eq (a b : Byte) (cin : Bool) :
    let r := a - b - BitVec.ofNat 8 cin.toNat
    sub8 a b cin = (r, allF r (r == 0#8) (hcSub (tableIdx 3 a b r)) (ovSub (tableIdx 7 a b r)) true
      (decide (a.toNat < b.toNat + cin.toNat))) := rfl

theorem adc16_eq (a b : Word) (cin : Bool) :
    let r := a + b + BitVec.ofNat 16 cin.toNat
    adc16 a b cin = (r, allF (hi8 r) (r == 0#16) (hcAdd (tableIdx 11 a b r)) (ovAdd (tableIdx 15 a b r)) false
      (decide (65536 ≤ a.toNat + b.toNat + cin.toNat))) := by
  simp [adc16, allF, ofNat_add_add, bitAt]

theorem sbc16_eq (a b : Word) (cin : Bool) :
    let r := a - b - BitVec.ofNat 16 cin.toNat
    sbc16 a b cin = (r, allF (hi8 r) (r == 0#16) (hcSub (tableIdx 11 a b r)) (ovSub (tableIdx 15 a b r)) true
      (decide (a.toNat < b.toNat + cin.toNat))) := rfl

theorem add16_eq (a b : Word) (old : Byte) :
    add16 a b old = (a + b, keepSZPF old (hi8 (a + b)) (hcAdd (tableIdx 11 a b (a + b)))
      (decide (65536 ≤ a.toNat + b.toNat))) := by
  simp [add16, keepSZPF, BitVec.ofNat_add]

/-- Settles O26: the primitives are brought to the shapes of the flag byte, and each clause is then a flag of that
shape or a statement about a table. -/
theorem addSubArithmetic : Obligations.AddSubArithmetic := by
  unfold Obligations.AddSubArithmetic
  refine ⟨fun cin => ⟨fun a b => ?add8, fun a b => ?sub8, fun a b => ?adc16, fun a b => ?sbc16⟩,
    fun a b old => ?add16⟩
  all_goals
    simp only [add8_eq, sub8_eq, adc16_eq, sbc16_eq, add16_eq, flagC_allF, flagH_allF, flagP_allF, flagZ_allF,
      flagS_allF, flagN_allF, allF_yx, msb_hi8, flagC_keepSZPF, flagH_keepSZPF, flagN_keepSZPF, keepSZPF_szp,
      keepSZPF_yx, decide_eq_true_iff, beq_iff_eq, true_and, and_true]
  case add8 => exact ⟨hcAdd_iff_carry rfl (by decide), ovAdd_iff_overflow rfl (by decide)⟩
  case sub8 => exact ⟨hcSub_iff_borrow rfl (by decide), ovSub_iff_overflow rfl (by decide)⟩
  case adc16 => exact ⟨hcAdd_iff_carry rfl (by decide), ovAdd_iff_overflow rfl (by decide)⟩
  case sbc16 => exact ⟨hcSub_iff_borrow rfl (by decide), ovSub_iff_overflow rfl (by decide)⟩
  case add16 =>
    have hsum : a + b = a + b + BitVec.ofNat 16 false.toNat := (BitVec.add_zero _).symm
    exact hcAdd_iff_carry hsum (by decide)

end Sys2Proof.Machine
end

section
/-! SUPPORT. The eight accumulator operations in the five operand forms of 44_arith_logic_8bit.md R240, all at once:
their encodings, and one rule for a register operand and one for a memory operand. LogicCompare is
the operations 4 to 7 of it, AddSub 0 to 3. -/

namespace Sys2Proof.Machine

/-! ## The encodings -/

theorem aluR_klass (r : Reg8) : ∀ y, (aluR y r).klass = .documented
  | 0 | 1 | 2 | 3 | 4 | 5 | 6 | _ + 7 => rfl

theorem aluAtHl_klass : ∀ y, (aluAtHl y).klass = .documented
  | 0 | 1 | 2 | 3 | 4 | 5 | 6 | _ + 7 => rfl

theorem aluN_klass (n : Byte) : ∀ y, (aluN y n).klass = .documented
  | 0 | 1 | 2 | 3 | 4 | 5 | 6 | _ + 7 => rfl

theorem aluAtXyd_klass (x : Idx) (d : Byte) : ∀ y, (aluAtXyd y x d).klass = .documented
  | 0 | 1 | 2 | 3 | 4 | 5 | 6 | _ + 7 => rfl

theorem aluHalf_klass (x : Idx) (hf : Half) : ∀ y, (aluHalf y x hf).klass = .undocumented
  | 0 | 1 | 2 | 3 | 4 | 5 | 6 | _ + 7 => rfl

/-- No byte of the quarter `x = 2` selects another table (30_encoding.md R92). -/
theorem xyz_two_unprefixed : ∀ y z : BitVec 3,
    xyz 2#2 y z ≠ 0xCB#8 ∧ xyz 2#2 y z ≠ 0xED#8 ∧ xyz 2#2 y z ≠ 0xDD#8 ∧ xyz 2#2 y z ≠ 0xFD#8 := by
  decide

/-- No byte of the column `x = 3`, `z = 6` selects another table (30_encoding.md R92). -/
theorem xyz_three_six_unprefixed : ∀ y : BitVec 3,
    xyz 3#2 y 6#3 ≠ 0xCB#8 ∧ xyz 3#2 y 6#3 ≠ 0xED#8 ∧ xyz 3#2 y 6#3 ≠ 0xDD#8 ∧ xyz 3#2 y 6#3 ≠ 0xFD#8 := by
  decide

section

variable (y : BitVec 3)

theorem reads_aluR (r : Reg8) : Reads [xyz 2#2 y r.code] .documented (aluR y.toNat r) :=
  ⟨aluR_klass r _, fun _ => decode_main (xyz_two_unprefixed y _) (by simp [mainTable])⟩

theorem reads_aluAtHl : Reads [xyz 2#2 y 6#3] .documented (aluAtHl y.toNat) :=
  ⟨aluAtHl_klass _, fun _ => decode_main (xyz_two_unprefixed y _) (by simp [mainTable, selR8])⟩

theorem reads_aluN (n : Byte) : Reads [xyz 3#2 y 6#3, n] .documented (aluN y.toNat n) :=
  ⟨aluN_klass n _, fun _ => decode_main (xyz_three_six_unprefixed y) (by simp [mainTable])⟩

theorem reads_aluAtXyd (x : Idx) (d : Byte) :
    Reads [x.lead, xyz 2#2 y 6#3, d] .documented (aluAtXyd y.toNat x d) :=
  ⟨aluAtXyd_klass x d _, fun _ => decode_xy (xyz_two_unprefixed y _) (by simp [xyTable, selHalf])⟩

theorem reads_aluHalf (x : Idx) (hf : Half) :
    Reads [x.lead, xyz 2#2 y hf.code] .undocumented (aluHalf y.toNat x hf) :=
  ⟨aluHalf_klass x hf _, fun _ => decode_xy (xyz_two_unprefixed y _) (by simp [xyTable])⟩

end

/-! ## The meanings -/

/-- What `alu[y]` (30_encoding.md R94) makes of A, F and an operand: the new A and F. CP leaves A. -/
def aluResult (y : Nat) (a f v : Byte) : Byte × Byte :=
  match y with
  | 0 => add8 a v false
  | 1 => add8 a v (flagC f)
  | 2 => sub8 a v false
  | 3 => sub8 a v (flagC f)
  | 4 => and8 a v
  | 5 => xor8 a v
  | 6 => or8 a v
  | _ => (a, cp8 a v)

/-- The accumulator operation `y` on an operand value. -/
def State.accAlu (y : Nat) (v : Byte) (s : State) : State := s.setAccF (aluResult y s.a s.f v)

section

variable (s : State)

theorem exec_aluR (r : Reg8) : ∀ y, exec (aluR y r) s = .next (s.accAlu y (s.r8 r))
  | 0 | 1 | 2 | 3 | 4 | 5 | 6 | _ + 7 => rfl

theorem exec_aluAtHl : ∀ y, exec (aluAtHl y) s = .next (s.useByte s.hl (State.accAlu y))
  | 0 | 1 | 2 | 3 | 4 | 5 | 6 | _ + 7 => rfl

theorem exec_aluN (n : Byte) : ∀ y, exec (aluN y n) s = .next (s.accAlu y n)
  | 0 | 1 | 2 | 3 | 4 | 5 | 6 | _ + 7 => rfl

theorem exec_aluAtXyd (x : Idx) (d : Byte) : ∀ y, exec (aluAtXyd y x d) s =
    .next ((s.setWz (s.xydAddr x d)).useByte (s.xydAddr x d) (State.accAlu y))
  | 0 | 1 | 2 | 3 | 4 | 5 | 6 | _ + 7 => rfl

theorem exec_aluHalf (x : Idx) (hf : Half) : ∀ y, exec (aluHalf y x hf) s = .next (s.accAlu y (s.half x hf))
  | 0 | 1 | 2 | 3 | 4 | 5 | 6 | _ + 7 => rfl

/-- On a memory operand in a quiet environment: the read and its charge go to the record, then the operation runs
on the byte at the address. -/
theorem State.useByte_accAlu_quiet (y : Nat) (addr : Word) (hq : s.inside = []) :
    s.useByte addr (State.accAlu y) =
      ((s.emit (.memRead addr (s.peek addr))).emit (.tick tMem)).setAccF (aluResult y s.a s.f (s.peek addr)) := by
  rw [State.useByte_eq, State.memRead_quiet s addr hq]
  rfl

end

/-! ## The five forms -/

/-- An operand that is a register, a half or a constant: A and F are written and nothing else happens. -/
theorem completes_accAlu {i : Instr} {s : State} {y : Nat} {v : Byte} (h : exec i s = .next (s.accAlu y v)) :
    Completes i s (s.withAF (aluResult y s.a s.f v)) s.peek [] :=
  ⟨_, h, rfl, fun _ => rfl, rfl⟩

/-- Every accumulator operation completes in its five forms (R240, R251). -/
theorem accForms_alu (y : BitVec 3) :
    AccForms y (aluR y.toNat) (aluAtHl y.toNat) (aluN y.toNat) (aluAtXyd y.toNat) (aluHalf y.toNat)
      (fun s v => s.withAF (aluResult y.toNat s.a s.f v)) := by
  intro s hq
  refine ⟨fun r => ⟨reads_aluR y r, completes_accAlu (exec_aluR s r _)⟩, ⟨reads_aluAtHl y, ?atHl⟩,
    fun n => ⟨reads_aluN y n, completes_accAlu (exec_aluN s n _)⟩, fun x d => ⟨reads_aluAtXyd y x d, ?atXyd⟩,
    fun x hf => ⟨reads_aluHalf y x hf, completes_accAlu (exec_aluHalf s x hf _)⟩⟩
  case atHl =>
    have hexec := exec_aluAtHl s y.toNat
    rw [State.useByte_accAlu_quiet s _ _ hq] at hexec
    exact ⟨_, hexec, rfl, fun _ => rfl, rfl⟩
  case atXyd =>
    have hexec := exec_aluAtXyd s x d y.toNat
    rw [State.useByte_accAlu_quiet (s.setWz (s.xydAddr x d)) _ _ hq] at hexec
    exact ⟨_, hexec, rfl, fun _ => rfl, rfl⟩

/-- Settles O40: AND, XOR, OR and CP are the accumulator operations 4 to 7. -/
theorem logicCompare : Obligations.LogicCompare := by
  unfold Obligations.LogicCompare
  exact ⟨accForms_alu 4#3, accForms_alu 5#3, accForms_alu 6#3, accForms_alu 7#3⟩

end Sys2Proof.Machine
end

section
/-! SUPPORT. The 8-bit loads (41_load_8bit.md): the encodings, then one rule for each of the three kinds of effect,
which are registers only, one byte read into a register, and one byte stored. The two memory rules let WZ be written
before the access: in a quiet environment its place does not matter, and a load that keeps WZ writes its old value. -/

namespace Sys2Proof.Machine

/-! ## The encodings -/

/-- Every byte that selects another table is in the quarter `x = 3` (30_encoding.md R92). -/
theorem xyz_unprefixed : ∀ (x : BitVec 2) (y z : BitVec 3), x ≠ 3#2 →
    xyz x y z ≠ 0xCB#8 ∧ xyz x y z ≠ 0xED#8 ∧ xyz x y z ≠ 0xDD#8 ∧ xyz x y z ≠ 0xFD#8 := by
  decide +kernel

/-- Bytes that begin with an opcode of the main table (R98). -/
theorem reads_main {op : Byte} {bs : List Byte} {c : InstrClass} {i : Instr} (hc : i.klass = c)
    (h : op ≠ 0xCB#8 ∧ op ≠ 0xED#8 ∧ op ≠ 0xDD#8 ∧ op ≠ 0xFD#8)
    (hi : ∀ rest, mainTable op (byteAt (bs ++ rest) 0) (byteAt (bs ++ rest) 1) = some i) :
    Reads (op :: bs) c i :=
  ⟨hc, fun rest => decode_main h (hi rest)⟩

/-- Bytes that begin with 0xDD or 0xFD and an opcode with an index form (R101). -/
theorem reads_xy {x : Idx} {op : Byte} {bs : List Byte} {c : InstrClass} {i : Instr} (hc : i.klass = c)
    (h : op ≠ 0xCB#8 ∧ op ≠ 0xED#8 ∧ op ≠ 0xDD#8 ∧ op ≠ 0xFD#8)
    (hi : ∀ rest, xyTable x op (byteAt (bs ++ rest) 0) (byteAt (bs ++ rest) 1) = some i) :
    Reads (x.lead :: op :: bs) c i :=
  ⟨hc, fun rest => decode_xy h (hi rest)⟩

@[simp] theorem selR8_six : selR8 6 = none := rfl

@[simp] theorem selP8_six : selP8 6 = none := rfl

/-- The index of a half selects a half in `p8` too (R95). -/
theorem selP8_half_code (hf : Half) : ∃ p, selP8 hf.code.toNat = some p := by
  cases hf
  · exact ⟨.xh, rfl⟩
  · exact ⟨.xl, rfl⟩

/-- The index of a plain register selects one in `p8`, a half where it is H or L (R95). -/
theorem selP8_reg_code (r : Reg8) : ∃ p, selP8 r.code.toNat = some p := by
  cases r <;> exact ⟨_, rfl⟩

/-- The index of a `p8` register that is no half selects no half. -/
theorem selHalf_code_eq_none {p : Reg8X} (hh : p ≠ .xh) (hl : p ≠ .xl) : selHalf p.code.toNat = none := by
  cases p with
  | xh => exact absurd rfl hh
  | xl => exact absurd rfl hl
  | b | c | d | e | a => rfl

section

variable (r r' : Reg8) (x : Idx) (hf : Half) (p : Reg8X) (d n : Byte)

theorem reads_ldRR : Reads [xyz 1#2 r.code r'.code] .documented (.ldRR r r') :=
  reads_main rfl (xyz_unprefixed 1#2 _ _ (by decide)) fun _ => by simp [mainTable]

theorem reads_ldRN : Reads [xyz 0#2 r.code 6#3, n] .documented (.ldRN r n) :=
  reads_main rfl (xyz_unprefixed 0#2 _ _ (by decide)) fun _ => by simp [mainTable]

theorem reads_ldRAtHl : Reads [xyz 1#2 r.code 6#3] .documented (.ldRAtHl r) :=
  reads_main rfl (xyz_unprefixed 1#2 _ _ (by decide)) fun _ => by simp [mainTable]

theorem reads_ldAtHlR : Reads [xyz 1#2 6#3 r.code] .documented (.ldAtHlR r) :=
  reads_main rfl (xyz_unprefixed 1#2 _ _ (by decide)) fun _ => by simp [mainTable]

theorem reads_ldHalfP : Reads [x.lead, xyz 1#2 hf.code p.code] .undocumented (.ldHalfP x hf p) := by
  obtain ⟨p', hp'⟩ := selP8_half_code hf
  exact reads_xy rfl (xyz_unprefixed 1#2 _ _ (by decide)) fun _ => by simp [xyTable, hp']

theorem reads_ldPHalf {p : Reg8X} (hh : p ≠ .xh) (hl : p ≠ .xl) :
    Reads [x.lead, xyz 1#2 p.code hf.code] .undocumented (.ldPHalf x p hf) := by
  obtain ⟨p', hp'⟩ := selP8_half_code hf
  exact reads_xy rfl (xyz_unprefixed 1#2 _ _ (by decide)) fun _ => by
    simp [xyTable, hp', selHalf_code_eq_none hh hl]

theorem reads_ldRAtXyd : Reads [x.lead, xyz 1#2 r.code 6#3, d] .documented (.ldRAtXyd r x d) := by
  obtain ⟨p', hp'⟩ := selP8_reg_code r
  exact reads_xy rfl (xyz_unprefixed 1#2 _ _ (by decide)) fun _ => by simp [xyTable, hp']

theorem reads_ldAtXydR : Reads [x.lead, xyz 1#2 6#3 r.code, d] .documented (.ldAtXydR x d r) := by
  obtain ⟨p', hp'⟩ := selP8_reg_code r
  exact reads_xy rfl (xyz_unprefixed 1#2 _ _ (by decide)) fun _ => by simp [xyTable, hp']

end

/-! ## The three kinds of effect -/

/-- An instruction that leaves memory and the record alone. -/
theorem completes_of_mem_trace {i : Instr} {s u : State} (h : exec i s = .next u) (hmem : u.mem = s.mem)
    (htrace : u.trace = s.trace) : Completes i s u s.peek [] :=
  ⟨u, h, rfl, State.peek_congr hmem, congrArg (List.filter BusOp.isOp) htrace⟩

/-- In a quiet environment the byte at the address goes to the register, the read and its charge to the record. -/
theorem State.useByte_setR8_quiet (s : State) (addr : Word) (r : Reg8) (hq : s.inside = []) :
    (s.useByte addr fun v t => t.setR8 r v) =
      ((s.emit (.memRead addr (s.peek addr))).emit (.tick tMem)).setR8 r (s.peek addr) := by
  rw [State.useByte_eq, State.memRead_quiet s addr hq]

/-- A byte of memory into a register, with `w` in WZ. -/
theorem completes_useByte_setR8 {i : Instr} {s : State} {addr w : Word} {r : Reg8} (hq : s.Quiet)
    (h : exec i s = .next ((s.setWz w).useByte addr fun v t => t.setR8 r v)) :
    Completes i s ((s.setWz w).setR8 r (s.peek addr)) s.peek [.memRead addr (s.peek addr)] := by
  rw [State.useByte_setR8_quiet (s.setWz w) addr r hq] at h
  refine ⟨_, h, ?regs, fun a => State.setR8_peek .., State.setR8_bus ..⟩
  case regs => cases r <;> rfl

/-- A byte to memory, with `w` in WZ. -/
theorem completes_memWrite {i : Instr} {s : State} {addr w : Word} {v : Byte} (hq : s.Quiet) (hc : s.Canonical)
    (h : exec i s = .next ((s.setWz w).memWrite addr v)) :
    Completes i s (s.setWz w) (s.poked addr v) [.memWrite addr v] := by
  refine ⟨_, h, ?regs, State.memWrite_peek (s.setWz w) addr v hq hc, State.memWrite_bus _ _ _⟩
  case regs =>
    rw [State.memWrite_quiet (s.setWz w) _ _ hq]
    rfl

/-- The shape of R179, R180, R186 with WZ written first. -/
theorem State.loadA_quiet (s : State) (addr : Word) (hq : s.inside = []) :
    s.loadA addr = (s.setWz (addr + 1#16)).useByte addr fun v t => t.setR8 .a v := by
  rw [State.loadA, State.useByte_eq, State.useByte_eq, State.memRead_quiet s addr hq,
    State.memRead_quiet (s.setWz (addr + 1#16)) addr hq]
  rfl

/-- The shape of R187 to R189 with WZ written first. -/
theorem State.storeA_quiet (s : State) (addr : Word) (hq : s.inside = []) :
    s.storeA addr = (s.setWz (join16 s.a (lo8 addr + 1#8))).memWrite addr s.a := by
  rw [State.storeA, State.memWrite_quiet s _ _ hq,
    State.memWrite_quiet (s.setWz (join16 s.a (lo8 addr + 1#8))) _ _ hq]
  rfl

theorem completes_loadA {i : Instr} {s : State} {addr : Word} (hq : s.Quiet)
    (h : exec i s = .next (s.loadA addr)) :
    Completes i s { s with a := s.peek addr, wz := addr + 1#16 } s.peek [.memRead addr (s.peek addr)] := by
  rw [State.loadA_quiet s addr hq] at h
  exact completes_useByte_setR8 hq h

/-- WZ takes the low byte of the address plus one, without a carry into the high byte. -/
theorem completes_storeA {i : Instr} {s : State} {hi lo : Byte} (hq : s.Quiet) (hc : s.Canonical)
    (h : exec i s = .next (s.storeA (join16 hi lo))) :
    Completes i s { s with wz := join16 s.a (lo + 1#8) } (s.poked (join16 hi lo) s.a)
      [.memWrite (join16 hi lo) s.a] := by
  rw [State.storeA_quiet s _ hq, lo8_join16] at h
  exact completes_memWrite hq hc h

/-! ## The obligations -/

/-- Settles O27: the destination is written and neither memory nor the record is. -/
theorem loadRegister8 : Obligations.LoadRegister8 := by
  unfold Obligations.LoadRegister8
  intro s
  refine ⟨fun r r' => ⟨reads_ldRR r r', ?ldRR⟩, fun r n => ⟨reads_ldRN r n, ?ldRN⟩,
    fun x hf p => ⟨reads_ldHalfP x hf p, ?ldHalfP⟩,
    fun x p hf hh hl => ⟨reads_ldPHalf x hf hh hl, ?ldPHalf⟩,
    fun x n => ⟨reads_xy rfl (by decide) fun _ => rfl, ?ldXyhN⟩,
    fun x n => ⟨reads_xy rfl (by decide) fun _ => rfl, ?ldXylN⟩⟩
  case ldRR => exact completes_of_mem_trace rfl (State.setR8_mem ..) (State.setR8_trace ..)
  case ldRN => exact completes_of_mem_trace rfl (State.setR8_mem ..) (State.setR8_trace ..)
  case ldHalfP => exact completes_of_mem_trace rfl (State.setHalf_mem ..) (State.setHalf_trace ..)
  case ldPHalf => exact completes_of_mem_trace rfl (State.setP8_mem ..) (State.setP8_trace ..)
  case ldXyhN => exact completes_of_mem_trace rfl (State.setXy_mem ..) (State.setXy_trace ..)
  case ldXylN => exact completes_of_mem_trace rfl (State.setXy_mem ..) (State.setXy_trace ..)

/-- Settles O28: every form reads one byte into a register; WZ is the old one, the indexed address, or the address
plus one. -/
theorem loadFromMemory8 : Obligations.LoadFromMemory8 := by
  unfold Obligations.LoadFromMemory8
  intro s hq
  refine ⟨fun r => ⟨reads_ldRAtHl r, ?ldRAtHl⟩, fun r x d => ⟨reads_ldRAtXyd r x d, ?ldRAtXyd⟩,
    ⟨reads_main rfl (by decide) fun _ => rfl, ?ldAAtBc⟩,
    ⟨reads_main rfl (by decide) fun _ => rfl, ?ldAAtDe⟩,
    fun nl nh => ⟨reads_main rfl (by decide) fun _ => rfl, ?ldAAtNn⟩⟩
  case ldRAtHl => exact completes_useByte_setR8 (w := s.wz) hq rfl
  case ldRAtXyd => exact completes_useByte_setR8 hq rfl
  case ldAAtBc => exact completes_loadA hq rfl
  case ldAAtDe => exact completes_loadA hq rfl
  case ldAAtNn => exact completes_loadA hq rfl

/-- Settles O29: every form stores one byte; WZ is the old one, the indexed address, or A with the low byte of the
address plus one. -/
theorem storeToMemory8 : Obligations.StoreToMemory8 := by
  unfold Obligations.StoreToMemory8
  intro s hq hc
  refine ⟨fun r => ⟨reads_ldAtHlR r, ?ldAtHlR⟩, fun x d r => ⟨reads_ldAtXydR r x d, ?ldAtXydR⟩,
    fun n => ⟨reads_main rfl (by decide) fun _ => rfl, ?ldAtHlN⟩,
    fun x d n => ⟨reads_xy rfl (by decide) fun _ => rfl, ?ldAtXydN⟩,
    ⟨reads_main rfl (by decide) fun _ => rfl, ?ldAtBcA⟩,
    ⟨reads_main rfl (by decide) fun _ => rfl, ?ldAtDeA⟩,
    fun nl nh => ⟨reads_main rfl (by decide) fun _ => rfl, ?ldAtNnA⟩⟩
  case ldAtHlR => exact completes_memWrite (w := s.wz) hq hc rfl
  case ldAtXydR => exact completes_memWrite (w := s.xydAddr _ _) hq hc rfl
  case ldAtHlN => exact completes_memWrite (w := s.wz) hq hc rfl
  case ldAtXydN => exact completes_memWrite hq hc rfl
  case ldAtBcA => exact completes_storeA hq hc rfl
  case ldAtDeA => exact completes_storeA hq hc rfl
  case ldAtNnA => exact completes_storeA hq hc rfl

end Sys2Proof.Machine
end

section
/-! SUPPORT. The 16-bit loads, PUSH and POP (42_load_16bit.md): the encodings, then one rule for each kind of effect,
which are a word read into registers, a word stored at an address, and a word pushed. LD HL,(nn) and LD (nn),HL
are the forms for a pair with the pair HL, so they have no rule of their own. -/

namespace Sys2Proof.Machine

/-! ## The encodings -/

/-- Every byte that selects another table has `q = 1` (30_encoding.md R92). -/
theorem xpqz_zero_unprefixed : ∀ (x p : BitVec 2) (z : BitVec 3),
    xpqz x p 0#1 z ≠ 0xCB#8 ∧ xpqz x p 0#1 z ≠ 0xED#8 ∧ xpqz x p 0#1 z ≠ 0xDD#8 ∧ xpqz x p 0#1 z ≠ 0xFD#8 := by
  decide +kernel

/-- Bytes that begin with 0xED and an opcode of its table (R100). -/
theorem reads_ed {op : Byte} {bs : List Byte} {c : InstrClass} {i : Instr} (hc : i.klass = c)
    (hi : ∀ rest, edTable op (byteAt (bs ++ rest) 0) (byteAt (bs ++ rest) 1) = some i) :
    Reads (0xED#8 :: op :: bs) c i :=
  ⟨hc, fun rest => decode_ed (hi rest)⟩

section

variable (p : Rp) (q : Rp2) (nl nh : Byte)

theorem reads_ldDdNn : Reads [xpqz 0#2 p.code 0#1 1#3, nl, nh] .documented (.ldDdNn p (join16 nh nl)) :=
  reads_main rfl (xpqz_zero_unprefixed _ _ _) fun _ => by simp [mainTable]

theorem reads_ldDdAtNn :
    Reads [0xED#8, xpqz 1#2 p.code 1#1 3#3, nl, nh] .documented (.ldDdAtNn p (join16 nh nl)) :=
  reads_ed rfl fun _ => by simp [edTable]

theorem reads_ldAtNnDd :
    Reads [0xED#8, xpqz 1#2 p.code 0#1 3#3, nl, nh] .documented (.ldAtNnDd (join16 nh nl) p) :=
  reads_ed rfl fun _ => by simp [edTable]

/-- The rows PUSH qq are those of column 5 with an even `y` (R98). -/
theorem reads_pushQq : Reads [xpqz 3#2 q.code 0#1 5#3] .documented (.pushQq q) :=
  reads_main rfl (xpqz_zero_unprefixed _ _ _) fun _ => by cases q <;> rfl

/-- The rows POP qq are those of column 1 with an even `y` (R98). -/
theorem reads_popQq : Reads [xpqz 3#2 q.code 0#1 1#3] .documented (.popQq q) :=
  reads_main rfl (xpqz_zero_unprefixed _ _ _) fun _ => by cases q <;> rfl

end

/-! ## A word into registers -/

/-- In a quiet environment a word read changes the record only. -/
theorem State.memRead16_eq_quiet (s : State) (addr : Word) (hq : s.inside = []) :
    s.memRead16 addr = (s.peek16 addr, { s with trace := (s.memRead16 addr).2.trace }) := by
  rw [State.memRead16_quiet s addr hq]
  rfl

/-- A pop leaves on the record what a word read at SP does. -/
theorem State.pop16_eq_quiet (s : State) (hq : s.inside = []) :
    s.pop16 = (s.peek16 s.sp, { s.setSp (s.sp + 2#16) with trace := (s.memRead16 s.sp).2.trace }) := by
  rw [State.pop16_quiet s hq, State.memRead16_quiet s s.sp hq]
  rfl

/-- In a quiet environment a word is read low byte first. -/
theorem State.memRead16_bus_quiet (s : State) (addr : Word) (hq : s.inside = []) :
    (s.memRead16 addr).2.bus =
      .memRead (addr + 1#16) (s.peek (addr + 1#16)) :: .memRead addr (s.peek addr) :: s.bus := by
  simp [State.memRead16_quiet, hq]

/-- An instruction that leaves on the record the reads of the word at `addr`, and memory alone. -/
theorem completes_memRead16 {i : Instr} {s u : State} {addr : Word} (hq : s.Quiet)
    (h : exec i s = .next { u with trace := (s.memRead16 addr).2.trace }) (hmem : u.mem = s.mem) :
    Completes i s u s.peek
      [.memRead addr (s.peek addr), .memRead (addr + 1#16) (s.peek (addr + 1#16))] :=
  ⟨_, h, rfl, State.peek_congr hmem, State.memRead16_bus_quiet s addr hq⟩

/-- The word at `addr` into a pair, WZ the address plus one (R202, R203). -/
theorem completes_loadRp {i : Instr} {s : State} {addr : Word} {p : Rp} (hq : s.Quiet)
    (h : exec i s = execLdDdAtNn p addr s) :
    Completes i s ((s.setWz (addr + 1#16)).setRp p (s.peek16 addr)) s.peek
      [.memRead addr (s.peek addr), .memRead (addr + 1#16) (s.peek (addr + 1#16))] := by
  refine completes_memRead16 hq ?exec (State.setRp_mem ..)
  rw [h, execLdDdAtNn, State.memRead16_eq_quiet s addr hq]
  cases p <;> rfl

/-- The word at `addr` into an index register (R204). -/
theorem completes_loadXy {s : State} {addr : Word} {x : Idx} (hq : s.Quiet) :
    Completes (.ldXyAtNn x addr) s ((s.setWz (addr + 1#16)).setXy x (s.peek16 addr)) s.peek
      [.memRead addr (s.peek addr), .memRead (addr + 1#16) (s.peek (addr + 1#16))] := by
  refine completes_memRead16 hq ?exec (State.setXy_mem ..)
  show execLdXyAtNn x addr s = _
  rw [execLdXyAtNn, State.memRead16_eq_quiet s addr hq]
  cases x <;> rfl

/-- The word at SP into a pair, SP two higher (R212). -/
theorem completes_popQq {s : State} {q : Rp2} (hq : s.Quiet) :
    Completes (.popQq q) s ((s.setSp (s.sp + 2#16)).setRp2 q (s.peek16 s.sp)) s.peek
      [.memRead s.sp (s.peek s.sp), .memRead (s.sp + 1#16) (s.peek (s.sp + 1#16))] := by
  refine completes_memRead16 hq ?exec (State.setRp2_mem ..)
  show execPopQq q s = _
  rw [execPopQq, State.pop16_eq_quiet s hq]
  cases q <;> rfl

/-- The word at SP into an index register (R213). -/
theorem completes_popXy {s : State} {x : Idx} (hq : s.Quiet) :
    Completes (.popXy x) s ((s.setSp (s.sp + 2#16)).setXy x (s.peek16 s.sp)) s.peek
      [.memRead s.sp (s.peek s.sp), .memRead (s.sp + 1#16) (s.peek (s.sp + 1#16))] := by
  refine completes_memRead16 hq ?exec (State.setXy_mem ..)
  show execPopXy x s = _
  rw [execPopXy, State.pop16_eq_quiet s hq]
  cases x <;> rfl

/-! ## A word to memory -/

theorem SameRegs.trans {t u v : State} (h : SameRegs t u) (h' : SameRegs u v) : SameRegs t v := by
  have htu : { t with mem := v.mem, trace := v.trace } = { u with mem := v.mem, trace := v.trace } :=
    congrArg (fun w : State => { w with mem := v.mem, trace := v.trace }) h
  exact Eq.trans htu h'

theorem SameRegs.setWz {t u : State} (h : SameRegs t u) (w : Word) : SameRegs (t.setWz w) (u.setWz w) :=
  congrArg (State.setWz · w) h

/-- In a quiet environment a store changes memory and the record only. -/
theorem State.memWrite_sameRegs (s : State) (addr : Word) (v : Byte) (hq : s.inside = []) :
    SameRegs (s.memWrite addr v) s := by
  rw [State.memWrite_quiet s addr v hq]
  rfl

/-- So do two stores. -/
theorem State.memWrite_memWrite_sameRegs (s : State) (addr addr' : Word) (v v' : Byte) (hq : s.inside = []) :
    SameRegs ((s.memWrite addr v).memWrite addr' v') s := by
  have hq' : (s.memWrite addr v).inside = [] := by simp [State.memWrite_quiet, hq]
  exact (State.memWrite_sameRegs _ addr' v' hq').trans (State.memWrite_sameRegs s addr v hq)

/-- A word to memory, WZ the address plus one (R205 to R207). -/
theorem completes_storeWord {i : Instr} {s : State} {addr v : Word} (hq : s.Quiet) (hc : s.Canonical)
    (h : exec i s = .next ((s.memWrite16 addr v).setWz (addr + 1#16))) :
    Completes i s (s.setWz (addr + 1#16)) (s.poked16 addr v)
      [.memWrite addr (lo8 v), .memWrite (addr + 1#16) (hi8 v)] :=
  ⟨_, h, (State.memWrite_memWrite_sameRegs s addr _ _ _ hq).setWz _,
    State.memWrite16_peek s addr v hq hc, State.memWrite16_bus s addr v⟩

/-- A word to the stack, SP two lower (R210, R211). The charge before the push is on the record only. -/
theorem completes_pushWord {i : Instr} {s : State} {n : Nat} {v : Word} (hq : s.Quiet) (hc : s.Canonical)
    (h : exec i s = .next ((s.tick n).push16 v)) :
    Completes i s (s.setSp (s.sp - 2#16)) (s.poked16 (s.sp - 2#16) v)
      [.memWrite (s.sp - 1#16) (hi8 v), .memWrite (s.sp - 2#16) (lo8 v)] := by
  rw [State.tick_quiet s n hq] at h
  refine ⟨_, h, ?regs, State.push16_peek (s.emit _) v hq hc, State.push16_bus (s.emit _) v⟩
  case regs =>
    rw [State.push16_quiet (s.emit _) v hq]
    exact (State.memWrite_memWrite_sameRegs ((s.emit (.tick n)).setSp _) _ _ _ _ hq).trans rfl

/-! ## A word into SP -/

/-- SP written after a charge (R208, R209). -/
theorem completes_tick_setSp {i : Instr} {s : State} {n : Nat} {v : Word} (hq : s.Quiet)
    (h : exec i s = .next ((s.tick n).setSp v)) : Completes i s (s.setSp v) s.peek [] := by
  rw [State.tick_quiet s n hq] at h
  exact ⟨_, h, rfl, fun _ => rfl, rfl⟩

/-! ## The obligations -/

/-- Settles O31: an immediate goes to its pair, and HL or an index register to SP after a charge. -/
theorem loadPair : Obligations.LoadPair := by
  unfold Obligations.LoadPair
  intro s hq
  refine ⟨fun p nl nh => ⟨reads_ldDdNn p nl nh, ?ldDdNn⟩,
    fun x nl nh => ⟨reads_xy rfl (by decide) fun _ => rfl, ?ldXyNn⟩,
    ⟨reads_main rfl (by decide) fun _ => rfl, ?ldSpHl⟩,
    fun x => ⟨reads_xy rfl (by decide) fun _ => rfl, ?ldSpXy⟩⟩
  case ldDdNn => exact completes_of_mem_trace rfl (State.setRp_mem ..) (State.setRp_trace ..)
  case ldXyNn => exact completes_of_mem_trace rfl (State.setXy_mem ..) (State.setXy_trace ..)
  case ldSpHl => exact completes_tick_setSp hq rfl
  case ldSpXy => exact completes_tick_setSp hq rfl

/-- Settles O32: every load is a word read into a pair or an index register, every store a word written, with WZ
the address plus one. -/
theorem pairMemory : Obligations.PairMemory := by
  unfold Obligations.PairMemory
  refine ⟨fun s nl nh hq => ?loads, fun s nl nh hq hc => ?stores⟩
  case loads =>
    exact ⟨⟨reads_main rfl (by decide) fun _ => rfl, completes_loadRp (p := .hl) hq rfl⟩,
      fun p => ⟨reads_ldDdAtNn p nl nh, completes_loadRp hq rfl⟩,
      fun x => ⟨reads_xy rfl (by decide) fun _ => rfl, completes_loadXy hq⟩⟩
  case stores =>
    exact ⟨⟨reads_main rfl (by decide) fun _ => rfl, completes_storeWord hq hc rfl⟩,
      fun p => ⟨reads_ldAtNnDd p nl nh, completes_storeWord hq hc rfl⟩,
      fun x => ⟨reads_xy rfl (by decide) fun _ => rfl, completes_storeWord hq hc rfl⟩⟩

/-- Settles O33: PUSH is a word pushed after a charge, POP the word at SP into its register. -/
theorem pushPop : Obligations.PushPop := by
  unfold Obligations.PushPop
  intro s hq hc
  exact ⟨fun q => ⟨reads_pushQq q, completes_pushWord hq hc rfl⟩,
    fun x => ⟨reads_xy rfl (by decide) fun _ => rfl, completes_pushWord hq hc rfl⟩,
    fun q => ⟨reads_popQq q, completes_popQq hq⟩,
    fun x => ⟨reads_xy rfl (by decide) fun _ => rfl, completes_popXy hq⟩⟩

end Sys2Proof.Machine
end

section
/-! SUPPORT. The exchanges, the block transfer and the block search (43_exchange_block.md R220 to R232). The exchange
with the word at SP, one iteration of a block transfer and one of a block search are each bus operations, which in a
quiet environment change memory and the record only, and then writes of registers, which keep those two. -/

namespace Sys2Proof.Machine

/-! ## Bus operations, then writes of registers -/

/-- `g` writes registers: it keeps memory and the record and does not look at them. -/
def WritesRegs (g : State → State) : Prop :=
  ∀ (s : State) (m : Memory) (tr : List BusOp),
    g { s with mem := m, trace := tr } = { g s with mem := m, trace := tr }

/-- `SameRegs` as an equation for the first state. -/
theorem SameRegs.eq_with {t u : State} (h : SameRegs t u) : t = { u with mem := t.mem, trace := t.trace } :=
  congrArg (fun w : State => { w with mem := t.mem, trace := t.trace }) h

/-- An instruction that goes through the state `w` on the bus and then writes registers. -/
theorem completes_writesRegs {i : Instr} {s w : State} {g : State → State} {m : Word → Byte}
    {ops : List BusOp} (hg : WritesRegs g) (h : exec i s = .next (g w)) (hregs : SameRegs w s)
    (hpeek : ∀ a, w.peek a = m a) (hbus : w.bus = ops.reverse ++ s.bus) : Completes i s (g s) m ops := by
  have hgw : g w = { g s with mem := w.mem, trace := w.trace } :=
    (congrArg g hregs.eq_with).trans (hg s w.mem w.trace)
  exact ⟨_, h.trans (congrArg Host.Outcome.next hgw), rfl, hpeek, hbus⟩

section

variable {t u : State} (h : SameRegs t u) (hq : u.inside = [])
include h hq

theorem SameRegs.inside_nil : t.inside = [] := by
  rw [h.eq_with]
  exact hq

/-- A charge changes the record only. -/
theorem SameRegs.tick (n : Nat) : SameRegs (t.tick n) u := by
  rw [State.tick_quiet t n (h.inside_nil hq)]
  exact h

/-- So does a read. -/
theorem SameRegs.memRead (addr : Word) : SameRegs (t.memRead addr).2 u := by
  rw [State.memRead_quiet t addr (h.inside_nil hq)]
  exact h

/-- A store changes memory and the record only. -/
theorem SameRegs.memWrite (addr : Word) (v : Byte) : SameRegs (t.memWrite addr v) u :=
  (State.memWrite_sameRegs t addr v (h.inside_nil hq)).trans h

end

/-! ## The registers exchanged -/

/-- The pairs DE and HL are written, each half with that of the other pair. -/
theorem exec_exDeHl (s : State) :
    exec .exDeHl s = .next { s with d := s.h, e := s.l, h := s.d, l := s.e } := by
  show execExDeHl s = _
  simp only [execExDeHl, State.setDe, State.setHl, State.de, State.hl, hi8_join16, lo8_join16]
  rfl

/-! ## The word at SP exchanged -/

/-- A word stored high byte first leaves the bytes of one stored low byte first. -/
theorem State.memWrite_memWrite_peek (s : State) (addr v : Word) (hq : s.inside = []) (hc : s.Canonical)
    (a : Word) :
    ((s.memWrite (addr + 1#16) (hi8 v)).memWrite addr (lo8 v)).peek a = s.poked16 addr v a := by
  have hq' : (s.memWrite (addr + 1#16) (hi8 v)).inside = [] := by simp [State.memWrite_quiet, hq]
  rw [State.memWrite_peek _ _ _ hq' (State.memWrite_canonical _ _ _ hc), State.poked,
    State.memWrite_peek _ _ _ hq hc, State.poked, State.poked16]

section

variable (s : State) (v : Word)

/-- The order of R223. -/
theorem State.exAtSp_eq :
    s.exAtSp v = ((s.memRead16 s.sp).1,
      ((((s.memRead16 s.sp).2.tick 1).memWrite (s.sp + 1#16) (hi8 v)).memWrite s.sp (lo8 v)).tick 2) := by
  simp [State.exAtSp, State.memRead16]

variable (hq : s.inside = [])
include hq

theorem State.exAtSp_value : (s.exAtSp v).1 = s.peek16 s.sp := by
  rw [State.exAtSp_eq, State.memRead16_quiet s s.sp hq]

theorem State.exAtSp_sameRegs : SameRegs (s.exAtSp v).2 s := by
  rw [State.exAtSp_eq]
  have hs : SameRegs s s := rfl
  have hread : SameRegs (s.memRead16 s.sp).2 s := (hs.memRead hq s.sp).memRead hq (s.sp + 1#16)
  exact (((hread.tick hq 1).memWrite hq _ _).memWrite hq _ _).tick hq 2

theorem State.exAtSp_peek (hc : s.Canonical) (a : Word) : (s.exAtSp v).2.peek a = s.poked16 s.sp v a := by
  have hmem : (s.exAtSp v).2.mem = ((s.memWrite (s.sp + 1#16) (hi8 v)).memWrite s.sp (lo8 v)).mem := by
    simp [State.exAtSp_eq, State.memRead16_quiet, State.memWrite_quiet, State.tick_quiet, hq]
  rw [State.peek_congr hmem, State.memWrite_memWrite_peek s s.sp v hq hc]

theorem State.exAtSp_bus :
    (s.exAtSp v).2.bus =
      [.memWrite s.sp (lo8 v), .memWrite (s.sp + 1#16) (hi8 v), .memRead (s.sp + 1#16) (s.peek (s.sp + 1#16)),
        .memRead s.sp (s.peek s.sp)] ++ s.bus := by
  simp [State.exAtSp_eq, State.memRead16_bus_quiet, hq]

end

/-- A register of value `old`, written by `g`, and the word at SP exchanged (R223, R224). -/
theorem completes_exAtSp {i : Instr} {s : State} {old : Word} {g : Word → State → State} (hq : s.Quiet)
    (hc : s.Canonical) (hg : ∀ v, WritesRegs (g v))
    (h : exec i s = .next (g (s.exAtSp old).1 (s.exAtSp old).2)) :
    Completes i s (g (s.peek16 s.sp) s) (s.poked16 s.sp old)
      [.memRead s.sp (s.peek s.sp), .memRead (s.sp + 1#16) (s.peek (s.sp + 1#16)),
        .memWrite (s.sp + 1#16) (hi8 old), .memWrite s.sp (lo8 old)] := by
  rw [State.exAtSp_value s old hq] at h
  exact completes_writesRegs (hg _) h (State.exAtSp_sameRegs s old hq) (State.exAtSp_peek s old hq hc)
    (State.exAtSp_bus s old hq)

/-! ## One iteration of a block transfer -/

/-- P of the block instructions as the rules write it. -/
theorem bitAt_two_ne_zero (w : Word) : bitAt 2 (w != 0#16) = if w ≠ 0#16 then 0x04#8 else 0x00#8 := by
  simp [bitAt]

/-- The bus operations of R225: the byte at HL to DE. -/
def State.ldBus (s : State) : State := ((s.memRead s.hl).2.memWrite s.de (s.memRead s.hl).1).tick 2

/-- The registers R225 writes when the byte is `t`. -/
def State.ldRegs (s : State) (t : Byte) (k : Word) : State :=
  (((s.setHl (s.hl + k)).setDe (s.de + k)).setBc (s.bc - 1#16)).setF
    (ldBlockF s.a t s.f (s.bc - 1#16 != 0#16))

section

variable (s : State)

theorem State.blockLd_eq (dir : Dir) : s.blockLd dir = s.ldBus.ldRegs (s.memRead s.hl).1 dir.step16 := by
  simp [State.blockLd, State.ldBus, State.ldRegs]

theorem State.ldRegs_eq_afterLd (k : Word) : s.ldRegs (s.peek s.hl) k = s.afterLd k := by
  rw [State.ldRegs, ldBlockF, bitAt_two_ne_zero, blockYX, ← BitVec.or_assoc]
  rfl

variable (hq : s.inside = [])
include hq

theorem State.ldBus_sameRegs : SameRegs s.ldBus s := by
  have hs : SameRegs s s := rfl
  exact ((hs.memRead hq _).memWrite hq _ _).tick hq 2

theorem State.ldBus_peek (hc : s.Canonical) (a : Word) : s.ldBus.peek a = s.poked s.de (s.peek s.hl) a := by
  have hmem : s.ldBus.mem = (s.memWrite s.de (s.peek s.hl)).mem := by
    simp [State.ldBus, State.memRead_quiet, State.memWrite_quiet, State.tick_quiet, hq]
  rw [State.peek_congr hmem, State.memWrite_peek s s.de _ hq hc]

theorem State.ldBus_bus :
    s.ldBus.bus = [.memWrite s.de (s.peek s.hl), .memRead s.hl (s.peek s.hl)] ++ s.bus := by
  simp [State.ldBus, State.memRead_quiet, hq]

end

theorem completes_blockLd {i : Instr} {s : State} {dir : Dir} (hq : s.Quiet) (hc : s.Canonical)
    (h : exec i s = .next (s.blockLd dir)) :
    Completes i s (s.afterLd dir.step16) (s.poked s.de (s.peek s.hl))
      [.memRead s.hl (s.peek s.hl), .memWrite s.de (s.peek s.hl)] := by
  rw [State.blockLd_eq, State.memRead_quiet s s.hl hq] at h
  rw [← State.ldRegs_eq_afterLd]
  exact completes_writesRegs (g := (State.ldRegs · _ _)) (fun _ _ _ => rfl) h (State.ldBus_sameRegs s hq)
    (State.ldBus_peek s hq hc) (State.ldBus_bus s hq)

/-! ## One iteration of a block search -/

/-- H of R229 is the borrow from bit 4. -/
theorem cpBlockH_eq (a t : Byte) : cpBlockH a t = decide (a.toNat % 16 < t.toNat % 16) := by
  rw [Bool.eq_iff_iff, decide_eq_true_iff]
  exact hcSub_iff_borrow (k := 3) (c := false) (BitVec.sub_zero _).symm (by decide)

/-- The bus operations of R229: the byte at HL read. -/
def State.cpBus (s : State) : State := (s.memRead s.hl).2.tick 5

/-- The registers R229 writes when the byte is `t`. -/
def State.cpRegs (s : State) (t : Byte) (k : Word) : State :=
  (((s.setHl (s.hl + k)).setBc (s.bc - 1#16)).setF
    (cpBlockF s.a t s.f (s.bc - 1#16 != 0#16))).setWz (s.wz + k)

section

variable (s : State)

theorem State.blockCp_eq (dir : Dir) :
    s.blockCp dir = (s.a - (s.memRead s.hl).1, s.cpBus.cpRegs (s.memRead s.hl).1 dir.step16) := by
  simp [State.blockCp, State.cpBus, State.cpRegs]

theorem State.afterCp_f (k : Word) :
    (s.afterCp k).f = cpBlockF s.a (s.peek s.hl) s.f (s.bc - 1#16 != 0#16) := by
  have hborrow (p : Prop) [Decidable p] : BitVec.ofNat 8 (decide p).toNat = if p then 1#8 else 0#8 := by
    by_cases h : p <;> simp [h]
  simp only [cpBlockF, cpBlockH_eq, hborrow, bitAt_two_ne_zero, blockYX, ← BitVec.or_assoc]
  simp [bitAt, State.afterCp]

theorem State.cpRegs_eq_afterCp (k : Word) : s.cpRegs (s.peek s.hl) k = s.afterCp k := by
  rw [State.cpRegs, ← State.afterCp_f s k]
  rfl

variable (hq : s.inside = [])
include hq

theorem State.cpBus_sameRegs : SameRegs s.cpBus s := by
  have hs : SameRegs s s := rfl
  exact (hs.memRead hq _).tick hq 5

theorem State.cpBus_peek (a : Word) : s.cpBus.peek a = s.peek a := by
  have hmem : s.cpBus.mem = s.mem := by simp [State.cpBus, State.memRead_quiet, State.tick_quiet, hq]
  exact State.peek_congr hmem a

theorem State.cpBus_bus : s.cpBus.bus = [.memRead s.hl (s.peek s.hl)] ++ s.bus := by
  simp [State.cpBus, State.memRead_quiet, hq]

end

theorem completes_blockCp {i : Instr} {s : State} {dir : Dir} (hq : s.Quiet)
    (h : exec i s = .next (s.blockCp dir).2) :
    Completes i s (s.afterCp dir.step16) s.peek [.memRead s.hl (s.peek s.hl)] := by
  rw [State.blockCp_eq, State.memRead_quiet s s.hl hq] at h
  rw [← State.cpRegs_eq_afterCp]
  exact completes_writesRegs (g := (State.cpRegs · _ _)) (fun _ _ _ => rfl) h (State.cpBus_sameRegs s hq)
    (State.cpBus_peek s hq) (State.cpBus_bus s hq)

/-! ## The obligations -/

/-- Settles O34: three instructions exchange registers and issue nothing, two exchange one with the word at SP. -/
theorem exchanges : Obligations.Exchanges := by
  unfold Obligations.Exchanges
  refine ⟨fun s => ?registers,
    fun s hq hc => ⟨⟨reads_main rfl (by decide) fun _ => rfl, ?exAtSpHl⟩,
      fun x => ⟨reads_xy rfl (by decide) fun _ => rfl, ?exAtSpXy⟩⟩⟩
  case registers =>
    exact ⟨⟨reads_main rfl (by decide) fun _ => rfl, completes_of_mem_trace (exec_exDeHl s) rfl rfl⟩,
      ⟨reads_main rfl (by decide) fun _ => rfl, completes_of_mem_trace rfl rfl rfl⟩,
      ⟨reads_main rfl (by decide) fun _ => rfl, completes_of_mem_trace rfl rfl rfl⟩⟩
  case exAtSpHl =>
    exact completes_exAtSp (g := fun v t => (t.setHl v).setWz v) hq hc (fun _ _ _ _ => rfl) rfl
  case exAtSpXy =>
    cases x with
    | ix => exact completes_exAtSp (g := fun v t => (t.setIx v).setWz v) hq hc (fun _ _ _ _ => rfl) rfl
    | iy => exact completes_exAtSp (g := fun v t => (t.setIy v).setWz v) hq hc (fun _ _ _ _ => rfl) rfl

/-- Settles O35: LDI and LDD are one iteration of the block transfer, up and down. -/
theorem blockTransfer : Obligations.BlockTransfer := by
  unfold Obligations.BlockTransfer
  intro s hq hc
  exact ⟨⟨reads_ed rfl fun _ => rfl, completes_blockLd (dir := .up) hq hc rfl⟩,
    ⟨reads_ed rfl fun _ => rfl, completes_blockLd (dir := .down) hq hc rfl⟩⟩

/-- Settles O37: CPI and CPD are one iteration of the block search, up and down. -/
theorem blockSearch : Obligations.BlockSearch := by
  unfold Obligations.BlockSearch
  intro s hq
  exact ⟨⟨reads_ed rfl fun _ => rfl, completes_blockCp (dir := .up) hq rfl⟩,
    ⟨reads_ed rfl fun _ => rfl, completes_blockCp (dir := .down) hq rfl⟩⟩

end Sys2Proof.Machine
end

section
/-! SUPPORT. INC and DEC of a register, an index half and a byte of memory (44_arith_logic_8bit.md R249 to R256), and
the proofs of AddSub, IncDecRegister and IncDecMemory. AddSub is an instance of `accForms_alu`. For the others: the
flag byte of R140 as the statements write it, the encodings, and one rule for each place of the operand. -/

namespace Sys2Proof.Machine

/-! ## The flags of R140 -/

/-- F after an increment to `r`, which keeps C of `fold`. -/
def incF (fold r : Byte) : Byte :=
  (fold &&& 0x01#8) ||| sz53 r ||| (if r &&& 0x0F#8 = 0x00#8 then 0x10#8 else 0x00#8) |||
    (if r = 0x80#8 then 0x04#8 else 0x00#8)

/-- F after a decrement to `r`, which keeps C of `fold`. -/
def decF (fold r : Byte) : Byte :=
  (fold &&& 0x01#8) ||| sz53 r ||| (if r &&& 0x0F#8 = 0x0F#8 then 0x10#8 else 0x00#8) |||
    (if r = 0x7F#8 then 0x04#8 else 0x00#8) ||| 0x02#8

theorem inc8_eq (v fold : Byte) : inc8 v fold = (v + 1#8, incF fold (v + 1#8)) := by
  simp [inc8, incF, bitAt]

theorem dec8_eq (v fold : Byte) : dec8 v fold = (v - 1#8, decF fold (v - 1#8)) := by
  simp [dec8, decF, bitAt]

section

variable (s : State)

theorem State.incByte_eq (v : Byte) : s.incByte v = (v + 1#8, s.setF (incF s.f (v + 1#8))) := by
  rw [State.incByte, inc8_eq]

theorem State.decByte_eq (v : Byte) : s.decByte v = (v - 1#8, s.setF (decF s.f (v - 1#8))) := by
  rw [State.decByte, dec8_eq]

theorem exec_incR (r : Reg8) :
    exec (.incR r) s = .next ((s.setF (incF s.f (s.r8 r + 1#8))).setR8 r (s.r8 r + 1#8)) := by
  show execIncR r s = _
  rw [execIncR, State.incByte_eq]

theorem exec_decR (r : Reg8) :
    exec (.decR r) s = .next ((s.setF (decF s.f (s.r8 r - 1#8))).setR8 r (s.r8 r - 1#8)) := by
  show execDecR r s = _
  rw [execDecR, State.decByte_eq]

theorem State.incHalf_eq (x : Idx) (hf : Half) :
    s.incHalf x hf = (s.setF (incF s.f (s.half x hf + 1#8))).setHalf x hf (s.half x hf + 1#8) := by
  rw [State.incHalf, State.incByte_eq]

theorem State.decHalf_eq (x : Idx) (hf : Half) :
    s.decHalf x hf = (s.setF (decF s.f (s.half x hf - 1#8))).setHalf x hf (s.half x hf - 1#8) := by
  rw [State.decHalf, State.decByte_eq]

end

/-! ## The encodings -/

section

variable (r : Reg8)

theorem reads_incR : Reads [xyz 0#2 r.code 4#3] .documented (.incR r) :=
  reads_main rfl (xyz_unprefixed 0#2 _ _ (by decide)) fun _ => by simp [mainTable]

theorem reads_decR : Reads [xyz 0#2 r.code 5#3] .documented (.decR r) :=
  reads_main rfl (xyz_unprefixed 0#2 _ _ (by decide)) fun _ => by simp [mainTable]

end

/-! ## F and a register -/

section

variable {i : Instr} {s : State} {f v : Byte}

theorem completes_setF_setR8 {r : Reg8} (h : exec i s = .next ((s.setF f).setR8 r v)) :
    Completes i s ((s.setF f).setR8 r v) s.peek [] :=
  completes_of_mem_trace h (State.setR8_mem ..) (State.setR8_trace ..)

/-- The high half is written, and the low half is the old one. -/
theorem completes_setF_setHalf_high {x : Idx} (h : exec i s = .next ((s.setF f).setHalf x .high v)) :
    Completes i s ((s.setF f).setXy x (join16 v (lo8 (s.xy x)))) s.peek [] := by
  rw [← State.xy_setF s f x]
  exact completes_of_mem_trace h (State.setXy_mem ..) (State.setXy_trace ..)

/-- The low half is written, and the high half is the old one: it is not carried into (R256). -/
theorem completes_setF_setHalf_low {x : Idx} (h : exec i s = .next ((s.setF f).setHalf x .low v)) :
    Completes i s ((s.setF f).setXy x (join16 (hi8 (s.xy x)) v)) s.peek [] := by
  rw [← State.xy_setF s f x]
  exact completes_of_mem_trace h (State.setXy_mem ..) (State.setXy_trace ..)

end

/-! ## F and a byte of memory -/

/-- What a modified operand is written back from, in a quiet environment: the read and the charges are on the record,
the flags `f` are written. -/
def State.readSetF (s : State) (addr : Word) (f : Byte) : State :=
  (((s.emit (.memRead addr (s.peek addr))).emit (.tick tMem)).setF f).emit (.tick 1)

section

variable {s : State} {addr : Word} {op : Byte → Byte → Byte × Byte} {k : Byte → State → Byte × State}
  (hk : ∀ v t, k v t = ((op v t.f).1, t.setF (op v t.f).2))
include hk

/-- A modified operand whose new byte and flags `op` gives from the old ones is a store, in a quiet environment. -/
theorem State.modifyByte_quiet (hq : s.inside = []) :
    s.modifyByte addr k =
      (s.readSetF addr (op (s.peek addr) s.f).2).memWrite addr (op (s.peek addr) s.f).1 := by
  rw [State.modifyByte_eq, State.memRead_quiet s addr hq, hk, State.tick_quiet]
  · rfl
  · exact hq

/-- A byte of memory read, modified and written back, with `w` in WZ. -/
theorem completes_modifyByte {i : Instr} {w : Word} (hq : s.Quiet) (hc : s.Canonical)
    (h : exec i s = .next ((s.setWz w).modifyByte addr k)) :
    Completes i s ((s.setWz w).setF (op (s.peek addr) s.f).2) (s.poked addr (op (s.peek addr) s.f).1)
      [.memRead addr (s.peek addr), .memWrite addr (op (s.peek addr) s.f).1] := by
  rw [State.modifyByte_quiet (s := s.setWz w) hk hq] at h
  have hquiet : ((s.setWz w).readSetF addr (op (s.peek addr) s.f).2).inside = [] := hq
  exact ⟨_, h, (State.memWrite_sameRegs _ _ _ hquiet).trans rfl, State.memWrite_peek _ _ _ hquiet hc,
    State.memWrite_bus _ _ _⟩

end

section

variable {i : Instr} {s : State} {addr w : Word} (hq : s.Quiet) (hc : s.Canonical)
include hq hc

theorem completes_incByte (h : exec i s = .next ((s.setWz w).modifyByte addr State.incByte)) :
    Completes i s ((s.setWz w).setF (incF s.f (s.peek addr + 1#8))) (s.poked addr (s.peek addr + 1#8))
      [.memRead addr (s.peek addr), .memWrite addr (s.peek addr + 1#8)] :=
  completes_modifyByte (op := fun v f => (v + 1#8, incF f (v + 1#8))) (fun v t => t.incByte_eq v) hq hc h

theorem completes_decByte (h : exec i s = .next ((s.setWz w).modifyByte addr State.decByte)) :
    Completes i s ((s.setWz w).setF (decF s.f (s.peek addr - 1#8))) (s.poked addr (s.peek addr - 1#8))
      [.memRead addr (s.peek addr), .memWrite addr (s.peek addr - 1#8)] :=
  completes_modifyByte (op := fun v f => (v - 1#8, decF f (v - 1#8))) (fun v t => t.decByte_eq v) hq hc h

end

/-! ## The obligations -/

/-- Settles O39: ADD, ADC, SUB and SBC are the accumulator operations 0 to 3. -/
theorem addSub : Obligations.AddSub := by
  unfold Obligations.AddSub
  exact ⟨accForms_alu 0#3, accForms_alu 1#3, accForms_alu 2#3, accForms_alu 3#3⟩

/-- Settles O41: F and the operand are written and neither memory nor the record is. -/
theorem incDecRegister : Obligations.IncDecRegister := by
  unfold Obligations.IncDecRegister
  intro s
  refine ⟨fun r => ⟨reads_incR r, completes_setF_setR8 (exec_incR s r)⟩,
    fun r => ⟨reads_decR r, completes_setF_setR8 (exec_decR s r)⟩,
    fun x => ⟨⟨reads_xy rfl (by decide) fun _ => rfl, ?incXyh⟩,
      ⟨reads_xy rfl (by decide) fun _ => rfl, ?decXyh⟩,
      ⟨reads_xy rfl (by decide) fun _ => rfl, ?incXyl⟩,
      ⟨reads_xy rfl (by decide) fun _ => rfl, ?decXyl⟩⟩⟩
  case incXyh => exact completes_setF_setHalf_high (congrArg Host.Outcome.next (s.incHalf_eq x .high))
  case decXyh => exact completes_setF_setHalf_high (congrArg Host.Outcome.next (s.decHalf_eq x .high))
  case incXyl => exact completes_setF_setHalf_low (congrArg Host.Outcome.next (s.incHalf_eq x .low))
  case decXyl => exact completes_setF_setHalf_low (congrArg Host.Outcome.next (s.decHalf_eq x .low))

/-- Settles O42: every form modifies the byte at its address; WZ is the old one or the indexed address. -/
theorem incDecMemory : Obligations.IncDecMemory := by
  unfold Obligations.IncDecMemory
  intro s hq hc
  refine ⟨⟨reads_main rfl (by decide) fun _ => rfl, ?incAtHl⟩,
    ⟨reads_main rfl (by decide) fun _ => rfl, ?decAtHl⟩,
    fun x d => ⟨⟨reads_xy rfl (by decide) fun _ => rfl, ?incAtXyd⟩,
      ⟨reads_xy rfl (by decide) fun _ => rfl, ?decAtXyd⟩⟩⟩
  case incAtHl => exact completes_incByte (w := s.wz) hq hc rfl
  case decAtHl => exact completes_decByte (w := s.wz) hq hc rfl
  case incAtXyd => exact completes_incByte (w := s.xydAddr x d) hq hc rfl
  case decAtXyd => exact completes_decByte (w := s.xydAddr x d) hq hc rfl

end Sys2Proof.Machine
end

section
/-! SUPPORT. CPL, NEG and NOP with the undocumented rows of NEG and NOP in the ED table (45_general_control.md R261,
R262, R265, R266), and the proof of ComplementNegateNop. -/

namespace Sys2Proof.Machine

/-! ## The encodings -/

/-- Column 4 of the ED table is NEG; the rows after the first keep their `y` as the operand (R100). Row 0 comes
first in the table, so `simp` needs `hne` in the context to pass it. -/
theorem edTable_negY {y : BitVec 3} (hy : y ≠ 0#3) (b2 b3 : Byte) :
    edTable (xyz 1#2 y 4#3) b2 b3 = some (.negY y) := by
  have hne : y.toNat ≠ 0 := fun h => hy (BitVec.eq_of_toNat_eq h)
  simp [edTable]

theorem reads_negY {y : BitVec 3} (hy : y ≠ 0#3) : Reads [0xED#8, xyz 1#2 y 4#3] .undocumented (.negY y) :=
  reads_ed rfl fun _ => edTable_negY hy _ _

/-! ## The effects -/

section

variable {i : Instr} {s : State}

/-- Both registers are written and neither memory nor the record is. -/
theorem completes_setA_setF {v f : Byte} (h : exec i s = .next ((s.setA v).setF f)) :
    Completes i s { s with a := v, f := f } s.peek [] :=
  completes_of_mem_trace h rfl rfl

theorem completes_negA (h : exec i s = .next s.negA) :
    Completes i s (s.withAF (sub8 0x00#8 s.a false)) s.peek [] :=
  completes_setA_setF h

/-- An instruction that is no more than its fetch leaves the whole state. -/
theorem completes_self (h : exec i s = .next s) : Completes i s s s.peek [] :=
  completes_of_mem_trace h rfl rfl

end

/-! ## The obligation -/

/-- Settles O45: CPL and NEG write A and F, every NEG the same way, and no NOP writes anything. -/
theorem complementNegateNop : Obligations.ComplementNegateNop := by
  unfold Obligations.ComplementNegateNop
  refine ⟨fun s => ⟨⟨reads_main rfl (by decide) fun _ => rfl, ?cpl⟩, ⟨reads_ed rfl fun _ => rfl, ?neg⟩,
      fun y hy => ⟨reads_negY hy, ?negY⟩⟩,
    fun s => ⟨⟨reads_main rfl (by decide) fun _ => rfl, ?nop⟩, ⟨reads_ed rfl fun _ => rfl, ?nopEd0⟩,
      ⟨reads_ed rfl fun _ => rfl, ?nopEd1⟩⟩⟩
  case cpl => exact completes_setA_setF rfl
  case neg => exact completes_negA rfl
  case negY => exact completes_negA rfl
  case nop => exact completes_self rfl
  case nopEd0 => exact completes_self rfl
  case nopEd1 => exact completes_self rfl

end Sys2Proof.Machine
end

section
/-! SUPPORT. The 16-bit arithmetic group (46_arith_16bit.md R280 to R287), and the proof of PairArithmetic. Every
meaning is a charge and then writes of registers, so one rule covers the group. -/

namespace Sys2Proof.Machine

/-! ## The encodings -/

/-- No byte before the quarter `x = 3` selects another table (30_encoding.md R92). -/
theorem xpqz_unprefixed : ∀ (x p : BitVec 2) (q : BitVec 1) (z : BitVec 3), x ≠ 3#2 →
    xpqz x p q z ≠ 0xCB#8 ∧ xpqz x p q z ≠ 0xED#8 ∧ xpqz x p q z ≠ 0xDD#8 ∧ xpqz x p q z ≠ 0xFD#8 := by
  decide +kernel

section

variable (p : Rp)

theorem reads_addHlSs : Reads [xpqz 0#2 p.code 1#1 1#3] .documented (.addHlSs p) :=
  reads_main rfl (xpqz_unprefixed 0#2 _ _ _ (by decide)) fun _ => by simp [mainTable]

theorem reads_adcHlSs : Reads [0xED#8, xpqz 1#2 p.code 1#1 2#3] .documented (.adcHlSs p) :=
  reads_ed rfl fun _ => by simp [edTable]

theorem reads_sbcHlSs : Reads [0xED#8, xpqz 1#2 p.code 0#1 2#3] .documented (.sbcHlSs p) :=
  reads_ed rfl fun _ => by simp [edTable]

theorem reads_incSs : Reads [xpqz 0#2 p.code 0#1 3#3] .documented (.incSs p) :=
  reads_main rfl (xpqz_zero_unprefixed _ _ _) fun _ => by simp [mainTable]

theorem reads_decSs : Reads [xpqz 0#2 p.code 1#1 3#3] .documented (.decSs p) :=
  reads_main rfl (xpqz_unprefixed 0#2 _ _ _ (by decide)) fun _ => by simp [mainTable]

theorem reads_addXyPp (x : Idx) (pp : RpX) :
    Reads [x.lead, xpqz 0#2 pp.code 1#1 1#3] .documented (.addXyPp x pp) :=
  reads_xy rfl (xpqz_unprefixed 0#2 _ _ _ (by decide)) fun _ => by simp [xyTable]

end

/-! ## A charge, then writes of registers -/

theorem writesRegs_setRp (p : Rp) (v : Word) : WritesRegs (State.setRp · p v) := by
  intro s m tr
  cases p <;> rfl

theorem writesRegs_setXy (x : Idx) (v : Word) : WritesRegs (State.setXy · x v) := by
  intro s m tr
  cases x <;> rfl

theorem add16_fst (a b : Word) (old : Byte) : (add16 a b old).1 = a + b := by
  rw [add16_eq]

/-- F is no part of an index register, so the order of the two writes does not matter. -/
theorem State.setF_setXy (s : State) (x : Idx) (v : Word) (f : Byte) :
    (s.setXy x v).setF f = (s.setF f).setXy x v := by
  cases x <;> rfl

section

variable {i : Instr} {s : State} (hq : s.Quiet)
include hq

/-- In a quiet environment the charge is on the record only. -/
theorem completes_tick {n : Nat} {g : State → State} (hg : WritesRegs g) (h : exec i s = .next (g (s.tick n))) :
    Completes i s (g s) s.peek [] := by
  have hs : SameRegs s s := rfl
  have hmem : (s.tick n).mem = s.mem := by
    rw [State.tick_quiet s n hq]
    rfl
  exact completes_writesRegs hg h (hs.tick hq n) (State.peek_congr hmem) (State.bus_tick s n)

/-- The result and its flags into HL and F, WZ the old HL plus one (R280 to R282). -/
theorem completes_hlArith {rf : Word × Byte} (h : exec i s = .next (s.hlArith rf)) :
    Completes i s ({ s with wz := s.hl + 1#16, f := rf.2 }.setHl rf.1) s.peek [] :=
  completes_tick (g := fun t => ((t.setWz (s.hl + 1#16)).setHl rf.1).setF rf.2) hq (fun _ _ _ => rfl) h

/-- The sum and its flags into an index register and F, WZ the old index register plus one (R283). -/
theorem completes_addXyPp (x : Idx) (pp : RpX) :
    Completes (.addXyPp x pp) s
      ({ s with wz := s.xy x + 1#16, f := (add16 (s.xy x) (s.rpX x pp) s.f).2 }.setXy x
        (s.xy x + s.rpX x pp)) s.peek [] := by
  have hexec : exec (.addXyPp x pp) s = .next ((((s.tick 7).setWz (s.xy x + 1#16)).setF
      (add16 (s.xy x) (s.rpX x pp) s.f).2).setXy x (s.xy x + s.rpX x pp)) := by
    show execAddXyPp x pp s = _
    rw [execAddXyPp, State.setF_setXy, add16_fst]
  exact completes_tick (g := fun t => ((t.setWz _).setF _).setXy x _) hq
    (fun t => writesRegs_setXy x _ ((t.setWz _).setF _)) hexec

end

/-! ## The obligation -/

/-- Settles O47: ADD, ADC and SBC write the pair, F and WZ, INC and DEC the pair alone, each after a charge. -/
theorem pairArithmetic : Obligations.PairArithmetic := by
  unfold Obligations.PairArithmetic
  refine ⟨fun s hq => ?arith, fun s hq => ?incDec⟩
  case arith =>
    exact ⟨fun p => ⟨reads_addHlSs p, completes_hlArith hq rfl⟩,
      fun p => ⟨reads_adcHlSs p, completes_hlArith hq rfl⟩,
      fun p => ⟨reads_sbcHlSs p, completes_hlArith hq rfl⟩,
      fun x p => ⟨reads_addXyPp x p, completes_addXyPp hq x p⟩⟩
  case incDec =>
    exact ⟨fun p => ⟨reads_incSs p, completes_tick hq (writesRegs_setRp p _) rfl⟩,
      fun x => ⟨reads_xy rfl (by decide) fun _ => rfl, completes_tick hq (writesRegs_setXy x _) rfl⟩,
      fun p => ⟨reads_decSs p, completes_tick hq (writesRegs_setRp p _) rfl⟩,
      fun x => ⟨reads_xy rfl (by decide) fun _ => rfl, completes_tick hq (writesRegs_setXy x _) rfl⟩⟩

end Sys2Proof.Machine
end

section
/-! SUPPORT. The rotates, shifts and bit operations of the main, CB and ED tables (47_rotate_shift_bit.md R290 to R306,
R310, R312, R314), and the proofs of AccumulatorRotates, RotateOperand, DigitRotates and BitOperations. The eight
CB-table rotates are settled at once, as the row `rot[y]` of 30_encoding.md R94. Bytes of memory go by
`completes_modifyByte`, but for the digit rotates, which write A after their store: these are bus operations and then
writes of registers. -/

namespace Sys2Proof.Machine

/-! ## The encodings -/

/-- Bytes that begin with 0xCB; every opcode after it has an entry (R99). -/
theorem reads_cb {op : Byte} {c : InstrClass} {i : Instr} (hc : i.klass = c) (hi : cbTable op = i) :
    Reads [0xCB#8, op] c i := by
  subst hi
  exact ⟨hc, fun _ => decode_cb op _ _⟩

/-- Both forms of `rot[y]` are of one class. -/
theorem rotR_klass (r : Reg8) : ∀ y, (rotR y r).klass = (rotAtHl y).klass
  | 0 | 1 | 2 | 3 | 4 | 5 | 6 | _ + 7 => rfl

section

variable (b y : BitVec 3) (r : Reg8)

theorem reads_rotR : Reads [0xCB#8, xyz 0#2 y r.code] (rotAtHl y.toNat).klass (rotR y.toNat r) :=
  reads_cb (rotR_klass r _) (by simp [cbTable])

theorem reads_rotAtHl : Reads [0xCB#8, xyz 0#2 y 6#3] (rotAtHl y.toNat).klass (rotAtHl y.toNat) :=
  reads_cb rfl (by simp [cbTable])

theorem reads_bitBR : Reads [0xCB#8, xyz 1#2 b r.code] .documented (.bitBR b r) :=
  reads_cb rfl (by simp [cbTable])

theorem reads_bitBAtHl : Reads [0xCB#8, xyz 1#2 b 6#3] .documented (.bitBAtHl b) :=
  reads_cb rfl (by simp [cbTable])

theorem reads_resBR : Reads [0xCB#8, xyz 2#2 b r.code] .documented (.resBR b r) :=
  reads_cb rfl (by simp [cbTable])

theorem reads_resBAtHl : Reads [0xCB#8, xyz 2#2 b 6#3] .documented (.resBAtHl b) :=
  reads_cb rfl (by simp [cbTable])

theorem reads_setBR : Reads [0xCB#8, xyz 3#2 b r.code] .documented (.setBR b r) :=
  reads_cb rfl (by simp [cbTable])

theorem reads_setBAtHl : Reads [0xCB#8, xyz 3#2 b 6#3] .documented (.setBAtHl b) :=
  reads_cb rfl (by simp [cbTable])

end

/-! ## The byte read -/

/-- In a quiet environment a read answers what memory holds. -/
theorem State.memRead_fst_quiet (s : State) (addr : Word) (hq : s.inside = []) :
    (s.memRead addr).1 = s.peek addr := by
  rw [State.memRead_quiet s addr hq]

/-! ## The accumulator rotates -/

/-- The bit out of `RLC` goes round to bit 0. -/
theorem rot8_rlc (v : Byte) (c : Bool) : rot8 .rlc v c = (v.rotateLeft 1, v.getLsbD 7) := by
  have hround : ∀ w : Byte, (w <<< 1) ||| bitAt 0 (w.getLsbD 7) = w.rotateLeft 1 := by decide +kernel
  rw [rot8, hround]

/-- The bit out of `RRC` goes round to bit 7. -/
theorem rot8_rrc (v : Byte) (c : Bool) : rot8 .rrc v c = (v.rotateRight 1, v.getLsbD 0) := by
  have hround : ∀ w : Byte, (w >>> 1) ||| bitAt 7 (w.getLsbD 0) = w.rotateRight 1 := by decide +kernel
  rw [rot8, hround]

theorem completes_rotAcc {i : Instr} {s : State} {k : Rot} {rc : Byte × Bool}
    (h : exec i s = .next (s.rotAcc k)) (hrc : rot8 k s.a (flagC s.f) = rc) :
    Completes i s { s with a := rc.1, f := rotAF rc.1 rc.2 s.f } s.peek [] := by
  subst hrc
  exact completes_of_mem_trace h rfl rfl

/-! ## The rotates and shifts of the CB table -/

/-- The kind of `rot[y]` (R94). -/
def rotKind (y : Nat) : Rot :=
  match y with
  | 0 => .rlc
  | 1 => .rrc
  | 2 => .rl
  | 3 => .rr
  | 4 => .sla
  | 5 => .sra
  | 6 => .sll
  | _ => .srl

/-- What a rotate or shift makes of an operand and F: the new operand and F (R144). -/
def rotResult (k : Rot) (v f : Byte) : Byte × Byte :=
  ((rot8 k v (flagC f)).1, rotFlags (rot8 k v (flagC f)))

section

variable (s : State)

theorem exec_rotR (r : Reg8) : ∀ y, exec (rotR y r) s = .next (s.rotReg (rotKind y) r)
  | 0 | 1 | 2 | 3 | 4 | 5 | 6 | _ + 7 => rfl

theorem exec_rotAtHl : ∀ y, exec (rotAtHl y) s = .next (s.modifyByte s.hl (State.rotByte (rotKind y)))
  | 0 | 1 | 2 | 3 | 4 | 5 | 6 | _ + 7 => rfl

theorem State.rotByte_eq (k : Rot) (v : Byte) :
    s.rotByte k v = ((rotResult k v s.f).1, s.setF (rotResult k v s.f).2) := rfl

theorem State.rotReg_eq (k : Rot) (r : Reg8) :
    s.rotReg k r = (s.setF (rotResult k (s.r8 r) s.f).2).setR8 r (rotResult k (s.r8 r) s.f).1 := rfl

end

/-- Every rotate and shift of the CB table completes in the forms `r` and `(HL)` (R294). -/
theorem rotForms_rot (y : BitVec 3) :
    RotForms (rotKind y.toNat) y (rotAtHl y.toNat).klass (rotR y.toNat) (rotAtHl y.toNat) := by
  intro s hq hc
  refine ⟨fun r => ⟨reads_rotR y r, ?r⟩, ⟨reads_rotAtHl y, ?atHl⟩⟩
  case r =>
    have hexec := exec_rotR s r y.toNat
    rw [State.rotReg_eq] at hexec
    exact completes_setF_setR8 hexec
  case atHl =>
    exact completes_modifyByte (w := s.wz) (op := rotResult (rotKind y.toNat)) (fun v t => t.rotByte_eq _ v)
      hq hc (exec_rotAtHl s y.toNat)

/-! ## The digit rotates -/

/-- The bus operations of R305 and R306 when the byte stored at HL is `v`. -/
def State.digitBus (s : State) (v : Byte) : State := ((s.memRead s.hl).2.tick 4).memWrite s.hl v

/-- The registers R305 and R306 write when the new A is `a`. -/
def State.digitRegs (s : State) (a : Byte) : State :=
  ((s.setA a).setF (szpKeepC a s.f)).setWz (s.hl + 1#16)

section

variable (s : State)

theorem exec_rld :
    exec .rld s = .next ((s.digitBus (((s.memRead s.hl).1 <<< 4) ||| (s.a &&& 0x0F#8))).digitRegs
      ((s.a &&& 0xF0#8) ||| ((s.memRead s.hl).1 >>> 4))) := by
  show execRld s = _
  simp [execRld, State.digitBus, State.digitRegs, State.hl]

theorem exec_rrd :
    exec .rrd s = .next ((s.digitBus ((s.a <<< 4) ||| ((s.memRead s.hl).1 >>> 4))).digitRegs
      ((s.a &&& 0xF0#8) ||| ((s.memRead s.hl).1 &&& 0x0F#8))) := by
  show execRrd s = _
  simp [execRrd, State.digitBus, State.digitRegs, State.hl]

variable (v : Byte) (hq : s.inside = [])
include hq

theorem State.digitBus_sameRegs : SameRegs (s.digitBus v) s := by
  have hs : SameRegs s s := rfl
  exact ((hs.memRead hq _).tick hq 4).memWrite hq _ _

theorem State.digitBus_peek (hc : s.Canonical) (a : Word) : (s.digitBus v).peek a = s.poked s.hl v a := by
  have hmem : (s.digitBus v).mem = (s.memWrite s.hl v).mem := by
    simp [State.digitBus, State.memRead_quiet, State.memWrite_quiet, State.tick_quiet, hq]
  rw [State.peek_congr hmem, State.memWrite_peek s s.hl v hq hc]

theorem State.digitBus_bus :
    (s.digitBus v).bus = [.memWrite s.hl v, .memRead s.hl (s.peek s.hl)] ++ s.bus := by
  simp [State.digitBus, State.memRead_quiet, hq]

end

theorem completes_digit {i : Instr} {s : State} {a v : Byte} (hq : s.Quiet) (hc : s.Canonical)
    (h : exec i s = .next ((s.digitBus v).digitRegs a)) :
    Completes i s (s.digitRegs a) (s.poked s.hl v) [.memRead s.hl (s.peek s.hl), .memWrite s.hl v] :=
  completes_writesRegs (g := (State.digitRegs · a)) (fun _ _ _ => rfl) h (State.digitBus_sameRegs s v hq)
    (State.digitBus_peek s v hq hc) (State.digitBus_bus s v hq)

/-! ## Bit test, set and reset -/

/-- `BITF` as the statements write it: a bit set clears Z and P, and sets S where it is bit 7 (R146). -/
theorem bitF_eq (b : BitNo) (v yx fold : Byte) :
    bitF b v yx fold = (fold &&& 0x01#8) ||| 0x10#8 ||| (yx &&& 0x28#8) |||
      (if v.getLsbD b.toNat then (if b = 7#3 then 0x80#8 else 0x00#8) else 0x44#8) := by
  cases hon : v.getLsbD b.toNat with
  | false => simp [bitF, hon, bitAt]
  | true => simp [bitF, hon, bitAt]

/-- The shape of R310: one read and a charge, then F. -/
theorem State.testByte_eq (s : State) (addr : Word) (b : BitNo) :
    s.testByte addr b = ((s.memRead addr).2.tick 1).setF (bitF b (s.memRead addr).1 (hi8 s.wz) s.f) := by
  simp [State.testByte, State.useByte_eq]

/-- The test of a byte at an address: the byte read, and F written. -/
theorem completes_testByte {i : Instr} {s : State} {addr : Word} {b : BitNo} (hq : s.Quiet)
    (h : exec i s = .next (s.testByte addr b)) :
    Completes i s (s.setF (bitF b (s.peek addr) (hi8 s.wz) s.f)) s.peek [.memRead addr (s.peek addr)] := by
  rw [State.testByte_eq, State.memRead_fst_quiet s addr hq] at h
  have hs : SameRegs s s := rfl
  have hinside : s.inside = [] := hq
  have hmem : ((s.memRead addr).2.tick 1).mem = s.mem := by
    simp [State.memRead_quiet, State.tick_quiet, hinside]
  have hbus : ((s.memRead addr).2.tick 1).bus = [.memRead addr (s.peek addr)] ++ s.bus := by
    simp [State.memRead_fst_quiet, hinside]
  exact completes_writesRegs (g := (State.setF · _)) (fun _ _ _ => rfl) h ((hs.memRead hq addr).tick hq 1)
    (State.peek_congr hmem) hbus

/-- A byte of memory modified with no flag written. -/
theorem completes_modifyByte_noFlag {i : Instr} {s : State} {addr : Word} {g : Byte → Byte}
    (hq : s.Quiet) (hc : s.Canonical) (h : exec i s = .next (s.modifyByte addr fun v t => (g v, t))) :
    Completes i s s (s.poked addr (g (s.peek addr)))
      [.memRead addr (s.peek addr), .memWrite addr (g (s.peek addr))] :=
  completes_modifyByte (w := s.wz) (op := fun v f => (g v, f)) (fun _ _ => rfl) hq hc h

/-! ## The obligations -/

/-- Settles O49: the eight operations are the rows 0 to 7 of `rot[y]`. -/
theorem rotateOperand : Obligations.RotateOperand := by
  unfold Obligations.RotateOperand
  exact ⟨rotForms_rot 0#3, rotForms_rot 1#3, rotForms_rot 2#3, rotForms_rot 3#3, rotForms_rot 4#3,
    rotForms_rot 5#3, rotForms_rot 6#3, rotForms_rot 7#3⟩

/-- Settles O51: each reads the byte at HL, stores the new one there, and writes A, F and WZ. -/
theorem digitRotates : Obligations.DigitRotates := by
  unfold Obligations.DigitRotates
  intro s hq hc
  refine ⟨⟨reads_ed rfl fun _ => rfl, completes_digit hq hc ?rld⟩,
    ⟨reads_ed rfl fun _ => rfl, completes_digit hq hc ?rrd⟩⟩
  case rld => rw [exec_rld, State.memRead_fst_quiet s s.hl hq]
  case rrd => rw [exec_rrd, State.memRead_fst_quiet s s.hl hq]

/-- Settles O52: BIT writes F alone; SET and RES write the operand alone. -/
theorem bitOperations : Obligations.BitOperations := by
  unfold Obligations.BitOperations
  refine ⟨fun s b hq => ?test, fun s b hq hc => ?setReset⟩
  case test =>
    simp only [← bitF_eq]
    exact ⟨fun r => ⟨reads_bitBR b r, completes_of_mem_trace rfl rfl rfl⟩,
      ⟨reads_bitBAtHl b, completes_testByte hq rfl⟩⟩
  case setReset =>
    exact ⟨fun r => ⟨reads_setBR b r, completes_of_mem_trace rfl (State.setR8_mem ..) (State.setR8_trace ..)⟩,
      ⟨reads_setBAtHl b, completes_modifyByte_noFlag (g := (· ||| bitMask b)) hq hc rfl⟩,
      fun r => ⟨reads_resBR b r, completes_of_mem_trace rfl (State.setR8_mem ..) (State.setR8_trace ..)⟩,
      ⟨reads_resBAtHl b, completes_modifyByte_noFlag (g := (· &&& ~~~bitMask b)) hq hc rfl⟩⟩

/-- Settles O48: A and F are written and neither memory nor the record is. -/
theorem accumulatorRotates : Obligations.AccumulatorRotates := by
  unfold Obligations.AccumulatorRotates
  intro s
  exact ⟨⟨reads_main rfl (by decide) fun _ => rfl, completes_rotAcc (k := .rlc) rfl (rot8_rlc _ _)⟩,
    ⟨reads_main rfl (by decide) fun _ => rfl, completes_rotAcc (k := .rrc) rfl (rot8_rrc _ _)⟩,
    ⟨reads_main rfl (by decide) fun _ => rfl, completes_rotAcc (k := .rl) rfl rfl⟩,
    ⟨reads_main rfl (by decide) fun _ => rfl, completes_rotAcc (k := .rr) rfl rfl⟩⟩

end Sys2Proof.Machine
end

section
/-! SUPPORT. The absolute jumps, the calls, the restarts and the returns (48_jump_call_return.md R320 to R322, R325,
R327 to R330, R335), and the proofs of Jumps and CallsReturns. A jump writes PC and WZ alone; a call or restart is the
address of the next instruction pushed, a return that address popped, and then PC and WZ written. -/

namespace Sys2Proof.Machine

/-! ## The encodings -/

/-- Every byte that selects another table is in the columns `z = 3` and `z = 5` (30_encoding.md R92). -/
theorem xyz_column_unprefixed : ∀ (x : BitVec 2) (y z : BitVec 3), z ≠ 3#3 → z ≠ 5#3 →
    xyz x y z ≠ 0xCB#8 ∧ xyz x y z ≠ 0xED#8 ∧ xyz x y z ≠ 0xDD#8 ∧ xyz x y z ≠ 0xFD#8 := by
  decide +kernel

section

variable (cc : Cond) (nl nh : Byte) (y : BitVec 3)

theorem reads_retCc : Reads [xyz 3#2 cc.code 0#3] .documented (.retCc cc) :=
  reads_main rfl (xyz_column_unprefixed _ _ 0#3 (by decide) (by decide)) fun _ => by simp [mainTable]

theorem reads_jpCcNn : Reads [xyz 3#2 cc.code 2#3, nl, nh] .documented (.jpCcNn cc (join16 nh nl)) :=
  reads_main rfl (xyz_column_unprefixed _ _ 2#3 (by decide) (by decide)) fun _ => by simp [mainTable]

theorem reads_callCcNn : Reads [xyz 3#2 cc.code 4#3, nl, nh] .documented (.callCcNn cc (join16 nh nl)) :=
  reads_main rfl (xyz_column_unprefixed _ _ 4#3 (by decide) (by decide)) fun _ => by simp [mainTable]

theorem reads_rstP : Reads [xyz 3#2 y 7#3] .documented (.rstP y) :=
  reads_main rfl (xyz_column_unprefixed _ _ 7#3 (by decide) (by decide)) fun _ => by simp [mainTable]

end

/-! ## Jumps -/

/-- The operand goes to WZ in both cases of R321, to PC in one. -/
theorem exec_jpCcNn (cc : Cond) (nn : Word) (s : State) :
    exec (.jpCcNn cc nn) s = .next { s with pc := if s.cond cc then nn else s.pc, wz := nn } := by
  show execJpCcNn cc nn s = _
  rw [execJpCcNn]
  cases s.cond cc with
  | true => rfl
  | false => rfl

/-! ## Calls and restarts -/

theorem SameRegs.setPc {t u : State} (h : SameRegs t u) (v : Word) : SameRegs (t.setPc v) (u.setPc v) :=
  congrArg (State.setPc · v) h

/-- In a quiet environment a push changes SP, memory and the record only. -/
theorem State.push16_sameRegs (s : State) (v : Word) (hq : s.inside = []) :
    SameRegs (s.push16 v) (s.setSp (s.sp - 2#16)) := by
  rw [State.push16_quiet s v hq]
  exact State.memWrite_memWrite_sameRegs (s.setSp _) _ _ _ _ hq

/-- The address of the next instruction pushed, the target into PC and WZ (R327, R335). The charge before the push is
on the record only. -/
theorem completes_call {i : Instr} {s : State} {target : Word} (hq : s.Quiet) (hc : s.Canonical)
    (h : exec i s = .next (s.call target)) :
    Completes i s (((s.setSp (s.sp - 2#16)).setPc target).setWz target) (s.poked16 (s.sp - 2#16) s.pc)
      [.memWrite (s.sp - 1#16) (hi8 s.pc), .memWrite (s.sp - 2#16) (lo8 s.pc)] := by
  rw [State.call, State.tick_quiet s 1 hq] at h
  refine ⟨_, h, ?regs, State.push16_peek (s.emit _) s.pc hq hc, State.push16_bus (s.emit _) s.pc⟩
  case regs =>
    have hpush := State.push16_sameRegs (s.emit (.tick 1)) s.pc hq
    exact ((hpush.setPc target).setWz target).trans rfl

section

variable {cc : Cond} {nn : Word} {s : State}

theorem exec_callCcNn_of_true (hcc : s.cond cc = true) : exec (.callCcNn cc nn) s = .next (s.call nn) := by
  show execCallCcNn cc nn s = _
  rw [execCallCcNn, if_pos hcc]

theorem exec_callCcNn_of_false (hcc : s.cond cc = false) : exec (.callCcNn cc nn) s = .next (s.setWz nn) := by
  show execCallCcNn cc nn s = _
  rw [execCallCcNn, hcc, if_neg Bool.false_ne_true]

end

theorem exec_rstP (y : BitVec 3) (s : State) :
    exec (.rstP y) s = .next (s.call (BitVec.ofNat 16 (8 * y.toNat))) := by
  show execRstP y s = _
  rw [execRstP, Nat.mul_comm]

/-! ## Returns -/

/-- In a quiet environment the word at SP goes to PC and WZ, SP two higher, and the record takes its two reads. -/
theorem State.popPc_eq_quiet (s : State) (hq : s.inside = []) :
    s.popPc = { s with sp := s.sp + 2#16, pc := s.peek16 s.sp, wz := s.peek16 s.sp,
                       trace := (s.memRead16 s.sp).2.trace } := by
  rw [State.popPc, State.pop16_eq_quiet s hq]
  rfl

/-- The word at SP into PC and WZ (R329), after charges, which are on the record only. -/
theorem completes_popPc {i : Instr} {s : State} {tr : List BusOp} (hq : s.Quiet)
    (h : exec i s = .next { s with trace := tr }.popPc) (htr : { s with trace := tr }.bus = s.bus) :
    Completes i s { s with sp := s.sp + 2#16, pc := s.peek16 s.sp, wz := s.peek16 s.sp } s.peek
      [.memRead s.sp (s.peek s.sp), .memRead (s.sp + 1#16) (s.peek (s.sp + 1#16))] := by
  rw [State.popPc_eq_quiet { s with trace := tr } hq] at h
  have hbus := State.memRead16_bus_quiet { s with trace := tr } s.sp hq
  rw [htr] at hbus
  exact ⟨_, h, rfl, fun _ => rfl, hbus⟩

section

variable {cc : Cond} {s : State}

theorem exec_retCc_of_true (hcc : s.cond cc = true) : exec (.retCc cc) s = .next (s.tick 1).popPc := by
  show execRetCc cc s = _
  rw [execRetCc, State.cond_tick, if_pos hcc]

theorem exec_retCc_of_false (hcc : s.cond cc = false) : exec (.retCc cc) s = .next (s.tick 1) := by
  show execRetCc cc s = _
  rw [execRetCc, State.cond_tick, hcc, if_neg Bool.false_ne_true]

variable (hq : s.Quiet)
include hq

theorem completes_retCc_of_true (hcc : s.cond cc = true) :
    Completes (.retCc cc) s { s with sp := s.sp + 2#16, pc := s.peek16 s.sp, wz := s.peek16 s.sp } s.peek
      [.memRead s.sp (s.peek s.sp), .memRead (s.sp + 1#16) (s.peek (s.sp + 1#16))] := by
  have hexec := exec_retCc_of_true hcc
  rw [State.tick_quiet s 1 hq] at hexec
  exact completes_popPc hq hexec (State.bus_emit s _)

/-- The charge before the test is all an untaken return does. -/
theorem completes_retCc_of_false (hcc : s.cond cc = false) : Completes (.retCc cc) s s s.peek [] :=
  completes_tick (g := id) hq (fun _ _ _ => rfl) (exec_retCc_of_false hcc)

end

/-! ## The obligations -/

/-- Settles O54: PC and WZ are written and neither memory nor the record is. -/
theorem jumps : Obligations.Jumps := by
  unfold Obligations.Jumps
  intro s
  refine ⟨fun nl nh => ⟨reads_main rfl (by decide) fun _ => rfl, ?jpNn⟩,
    fun cc nl nh => ⟨reads_jpCcNn cc nl nh, ?jpCcNn⟩,
    ⟨reads_main rfl (by decide) fun _ => rfl, ?jpHl⟩,
    fun x => ⟨reads_xy rfl (by decide) fun _ => rfl, ?jpXy⟩⟩
  case jpNn => exact completes_of_mem_trace rfl rfl rfl
  case jpCcNn => exact completes_of_mem_trace (exec_jpCcNn cc _ s) rfl rfl
  case jpHl => exact completes_of_mem_trace rfl rfl rfl
  case jpXy => exact completes_of_mem_trace rfl rfl rfl

/-- Settles O56: a call or restart pushes PC, a return pops it; an untaken call writes WZ, an untaken return
nothing. -/
theorem callsReturns : Obligations.CallsReturns := by
  unfold Obligations.CallsReturns
  refine ⟨fun s hq hc => ?calls, fun s hq => ?returns⟩
  case calls =>
    exact ⟨fun nl nh => ⟨reads_main rfl (by decide) fun _ => rfl, completes_call hq hc rfl⟩,
      fun cc nl nh => ⟨reads_callCcNn cc nl nh,
        fun hcc => completes_call hq hc (exec_callCcNn_of_true hcc),
        fun hcc => completes_of_mem_trace (exec_callCcNn_of_false hcc) rfl rfl⟩,
      fun y => ⟨reads_rstP y, completes_call hq hc (exec_rstP y s)⟩⟩
  case returns =>
    exact ⟨⟨reads_main rfl (by decide) fun _ => rfl, completes_popPc (tr := s.trace) hq rfl rfl⟩,
      fun cc => ⟨reads_retCc cc, completes_retCc_of_true hq, completes_retCc_of_false hq⟩⟩

end Sys2Proof.Machine
end

section
/-! SUPPORT. What every instruction's meaning is made of: writes of registers, clock charges, memory and port
operations, and at most one byte or word read from memory, before any store. `exec_runs` says so of all 201 rows, with
what each may write or issue (`allowed`). The whole-machine rules are then inductions over that shape. -/

namespace Sys2Proof.Machine

/-! ## What an instruction may do -/

/-- What the whole-machine rules speak of: registers other than the data registers, and kinds of bus operation. -/
inductive Effect where
  | f | pc | sp | iff1 | iff2 | im | i | r | af' | shadow | irqDelay | halted
  | env | memRead | memWrite | port

/-- The effects the rules allow an instruction. -/
def allowed (i : Instr) : Effect → Bool
  | .f => i.writesFlags
  | .pc => i.writesPc
  | .sp => i.writesSp
  | .iff1 => (i matches .di | .ei | .retn | .reti | .retnY _)
  | .iff2 => (i matches .di | .ei)
  | .im => (i matches .im0 | .im1 | .im2 | .imY _)
  | .i => (i matches .ldIA)
  | .r => (i matches .ldRA)
  | .af' => (i matches .exAfAf)
  | .shadow => (i matches .exx)
  | .irqDelay => (i matches .ei)
  | .halted => (i matches .halt)
  | .env => false
  | .memRead => i.writesMem || i.readsMemOnly || i.portOnly
  | .memWrite => i.writesMem
  | .port => i.portOnly || (i matches .ini | .ind | .inir | .indr)

/-- The registers an effect speaks of, in a state that holds nothing else. -/
def Effect.view (e : Effect) (s : State) : State :=
  match e with
  | .f => State.reset.setF s.f
  | .pc => State.reset.setPc s.pc
  | .sp => State.reset.setSp s.sp
  | .iff1 => State.reset.setIff1 s.iff1
  | .iff2 => State.reset.setIff2 s.iff2
  | .im => State.reset.setIm s.im
  | .i => State.reset.setI s.i
  | .r => State.reset.setR s.r
  | .af' => State.reset.setAf' s.af'
  | .shadow => ((State.reset.setBc' s.bc').setDe' s.de').setHl' s.hl'
  | .irqDelay => State.reset.setIrqDelay s.irqDelay
  | .halted => State.reset.setHalted s.halted
  | .env => State.reset.setEnv s.env
  | .memRead | .memWrite | .port => State.reset

/-- From `s` to `t` no register changed that `W` does not allow to be written. -/
def Keeps (W : Effect → Bool) (s t : State) : Prop := ∀ e, W e = false → e.view t = e.view s

theorem Keeps.trans {W : Effect → Bool} {s t u : State} (h : Keeps W s t) (h' : Keeps W t u) : Keeps W s u :=
  fun e he => (h' e he).trans (h e he)

/-- `t`, but with the value of `s` in every register that `W` does not allow to be written. -/
def State.within (W : Effect → Bool) (s t : State) : State :=
  { t with
    f := bif W .f then t.f else s.f
    pc := bif W .pc then t.pc else s.pc
    sp := bif W .sp then t.sp else s.sp
    iff1 := bif W .iff1 then t.iff1 else s.iff1
    iff2 := bif W .iff2 then t.iff2 else s.iff2
    im := bif W .im then t.im else s.im
    i := bif W .i then t.i else s.i
    r := bif W .r then t.r else s.r
    af' := bif W .af' then t.af' else s.af'
    bc' := bif W .shadow then t.bc' else s.bc'
    de' := bif W .shadow then t.de' else s.de'
    hl' := bif W .shadow then t.hl' else s.hl'
    irqDelay := bif W .irqDelay then t.irqDelay else s.irqDelay
    halted := bif W .halted then t.halted else s.halted
    env := bif W .env then t.env else s.env }

/-- `Keeps` as an equation, which for a given instruction and a given write holds by computation. -/
theorem keeps_of_within {W : Effect → Bool} {s t : State} (h : s.within W t = t) : Keeps W s t := by
  intro e he
  rw [← h]
  cases e <;> simp [State.within, Effect.view, he]

/-- `g` writes registers of the core that `W` allows: it keeps what the environment reaches and the record, and does
not look at them. -/
structure WritesCore (W : Effect → Bool) (g : State → State) : Prop where
  core : ∀ (s : State) (m : Memory) (q : Req) (l : List (List EnvAction)) (tr : List BusOp),
    g { s with mem := m, req := q, inside := l, trace := tr } =
      { g s with mem := m, req := q, inside := l, trace := tr }
  keeps : ∀ s, Keeps W s (g s)

/-- `c` looks at registers of the core only. -/
def ReadsCore {α : Type} (c : State → α) : Prop :=
  ∀ (s : State) (m : Memory) (q : Req) (l : List (List EnvAction)) (tr : List BusOp),
    c { s with mem := m, req := q, inside := l, trace := tr } = c s

/-! ## Writes of registers -/

section

variable {W : Effect → Bool} {f v : State → Byte}

theorem writesCore_id : WritesCore W fun s => s where
  core _ _ _ _ _ := rfl
  keeps _ _ _ := rfl

theorem WritesCore.comp {g g' : State → State} (hg : WritesCore W g) (hg' : WritesCore W g') :
    WritesCore W fun s => g' (g s) where
  core s m q l tr := by rw [hg.core, hg'.core]
  keeps s := (hg.keeps s).trans (hg'.keeps (g s))

theorem writesCore_setWz (w : Word) : WritesCore W (State.setWz · w) where
  core _ _ _ _ _ := rfl
  keeps _ e _ := by cases e <;> rfl

theorem writesCore_setPc (hW : W .pc = true) (w : Word) : WritesCore W (State.setPc · w) where
  core _ _ _ _ _ := rfl
  keeps _ e he := by cases e <;> simp_all [Effect.view]

theorem writesCore_setSp (hW : W .sp = true) (w : Word) : WritesCore W (State.setSp · w) where
  core _ _ _ _ _ := rfl
  keeps _ e he := by cases e <;> simp_all [Effect.view]

theorem writesCore_setR8 (r : Reg8) (hv : ReadsCore v) : WritesCore W fun s => s.setR8 r (v s) where
  core s m q l tr := by
    simp only [hv s m q l tr]
    cases r <;> rfl
  keeps s e _ := by cases e <;> simp [Effect.view]

theorem writesCore_setXy (x : Idx) (w : Word) : WritesCore W (State.setXy · x w) where
  core _ _ _ _ _ := by cases x <;> rfl
  keeps _ e _ := by cases e <;> simp [Effect.view]

theorem writesCore_setF_setR8 (hW : W .f = true) (r : Reg8) (hf : ReadsCore f) (hv : ReadsCore v) :
    WritesCore W fun s => (s.setF (f s)).setR8 r (v s) where
  core s m q l tr := by
    simp only [hf s m q l tr, hv s m q l tr]
    cases r <;> rfl
  keeps s e he := by cases e <;> simp_all [Effect.view]

theorem writesCore_setF (hW : W .f = true) (hf : ReadsCore f) : WritesCore W fun s => s.setF (f s) where
  core s m q l tr := by
    simp only [hf s m q l tr]
    rfl
  keeps s e he := by cases e <;> simp_all [Effect.view]

end

theorem readsCore_xy (x : Idx) : ReadsCore (State.xy · x) := by
  cases x <;> exact fun _ _ _ _ _ => rfl

theorem readsCore_half (x : Idx) (hf : Half) : ReadsCore (State.half · x hf) := by
  cases x <;> cases hf <;> exact fun _ _ _ _ _ => rfl

theorem readsCore_p8 (x : Idx) (p : Reg8X) : ReadsCore (State.p8 · x p) := by
  cases p
  case xh => exact readsCore_half x .high
  case xl => exact readsCore_half x .low
  all_goals exact fun _ _ _ _ _ => rfl

theorem readsCore_rp (p : Rp) : ReadsCore (State.rp · p) := by
  cases p <;> exact fun _ _ _ _ _ => rfl

theorem readsCore_rp2 (p : Rp2) : ReadsCore (State.rp2 · p) := by
  cases p <;> exact fun _ _ _ _ _ => rfl

theorem readsCore_rpX (x : Idx) (p : RpX) : ReadsCore (State.rpX · x p) := by
  cases p
  case xy => exact readsCore_xy x
  all_goals exact fun _ _ _ _ _ => rfl

theorem readsCore_xydAddr (x : Idx) (d : Byte) : ReadsCore (State.xydAddr · x d) := by
  cases x <;> exact fun _ _ _ _ _ => rfl

theorem readsCore_cond (cc : Cond) : ReadsCore (State.cond · cc) := by
  cases cc <;> exact fun _ _ _ _ _ => rfl

theorem readsCore_condJr (cc : CondJr) : ReadsCore (State.condJr · cc) := by
  cases cc <;> exact fun _ _ _ _ _ => rfl

section

variable {W : Effect → Bool} {v f : State → Byte} {w : State → Word}

theorem writesCore_setHalf (x : Idx) (hf : Half) (hv : ReadsCore v) :
    WritesCore W fun s => s.setHalf x hf (v s) where
  core s m q l tr := by
    simp only [hv s m q l tr]
    cases hf <;> cases x <;> rfl
  keeps s e _ := by cases hf <;> cases e <;> simp [State.setHalf, Effect.view]

theorem writesCore_setP8 (x : Idx) (p : Reg8X) (hv : ReadsCore v) : WritesCore W fun s => s.setP8 x p (v s) := by
  cases p
  case xh => exact writesCore_setHalf x .high hv
  case xl => exact writesCore_setHalf x .low hv
  case b => exact writesCore_setR8 .b hv
  case c => exact writesCore_setR8 .c hv
  case d => exact writesCore_setR8 .d hv
  case e => exact writesCore_setR8 .e hv
  case a => exact writesCore_setR8 .a hv

theorem writesCore_setRp (p : Rp) (u : Word) (hp : p = .sp → W .sp = true) : WritesCore W (State.setRp · p u) where
  core _ _ _ _ _ := by cases p <;> rfl
  keeps s e he := by cases p <;> cases e <;> simp_all [State.setRp, Effect.view]

theorem writesCore_setRp2 (p : Rp2) (u : Word) (hp : p = .af → W .f = true) :
    WritesCore W (State.setRp2 · p u) where
  core _ _ _ _ _ := by cases p <;> rfl
  keeps s e he := by cases p <;> cases e <;> simp_all [State.setRp2, Effect.view]

theorem writesCore_setFOf (hW : W .f = true) (u : Byte) : WritesCore W (State.setF · u) :=
  writesCore_setF hW fun _ _ _ _ _ => rfl

end

/-! ## The shape of a meaning -/

/-- A meaning without a read of memory. -/
inductive Tail (W : Effect → Bool) : (State → State) → Prop where
  | regs (g : State → State) (h : WritesCore W g := by exact ⟨fun _ _ _ _ _ => rfl, fun _ => keeps_of_within rfl⟩) :
      Tail W g
  | tick (n : Nat) : Tail W (State.tick · n)
  | memWrite (a : Word) (v : Byte) (h : W .memWrite = true := by rfl) : Tail W (State.memWrite · a v)
  | portWrite (p : Word) (v : Byte) (h : W .port = true := by rfl) : Tail W (State.portWrite · p v)
  | portRead (p : Word) {k : Byte → State → State} (hk : ∀ v, Tail W (k v)) (h : W .port = true := by rfl) :
      Tail W fun s => k (s.portRead p).1 (s.portRead p).2
  | seq {f g : State → State} (hf : Tail W f) (hg : Tail W g) : Tail W fun s => g (f s)
  | ite (c : State → Bool) {f g : State → State} (hf : Tail W f) (hg : Tail W g)
      (hc : ReadsCore c := by intro _ _ _ _ _; rfl) : Tail W fun s => if c s = true then f s else g s

/-- A meaning: charges and writes of registers, then at most one byte or word read, then no read. -/
inductive Meaning (W : Effect → Bool) : (State → State) → Prop where
  | tail {f : State → State} (hf : Tail W f) : Meaning W f
  | tick (n : Nat) {f : State → State} (hf : Meaning W f) : Meaning W fun s => f (s.tick n)
  | regs (g : State → State) {f : State → State} (hf : Meaning W f)
      (h : WritesCore W g := by exact ⟨fun _ _ _ _ _ => rfl, fun _ => keeps_of_within rfl⟩) :
      Meaning W fun s => f (g s)
  | read (a : Word) {k : Byte → State → State} (hk : ∀ v, Tail W (k v)) (h : W .memRead = true := by rfl) :
      Meaning W fun s => k (s.memRead a).1 (s.memRead a).2
  | read16 (a : Word) {k : Word → State → State} (hk : ∀ w, Tail W (k w)) (h : W .memRead = true := by rfl) :
      Meaning W fun s => k (s.memRead16 a).1 (s.memRead16 a).2

/-- `e` always answers a next state, by a meaning `k c` in which `c` holds the registers it begins with. -/
def Runs (W : Effect → Bool) (e : State → Result) : Prop :=
  ∃ k : State → State → State,
    (∀ c, Meaning W (k c)) ∧ (∀ s, e s = .next (k s s)) ∧
    ∀ (c : State) (m : Memory) (l : List (List EnvAction)), k { c with mem := m, inside := l } = k c

/-! ## The meanings that read no memory -/

section

variable {W : Effect → Bool} {e : State → Result}

/-- The general form, the meaning first. -/
theorem Meaning.runs {k : State → State → State} (hk : ∀ c, Meaning W (k c)) (h : ∀ s, e s = .next (k s s))
    (hc : ∀ (c : State) (m : Memory) (l : List (List EnvAction)), k { c with mem := m, inside := l } = k c := by
      intro _ _ _; rfl) : Runs W e :=
  ⟨k, hk, h, hc⟩

/-- The same without a read. -/
theorem Tail.runs {k : State → State → State} (hk : ∀ c, Tail W (k c)) (h : ∀ s, e s = .next (k s s))
    (hc : ∀ (c : State) (m : Memory) (l : List (List EnvAction)), k { c with mem := m, inside := l } = k c := by
      intro _ _ _; rfl) : Runs W e :=
  ⟨k, fun c => .tail (hk c), h, hc⟩

/-- Writes of registers only. -/
theorem runs_regs {g : State → State} (h : ∀ s, e s = .next (g s))
    (hg : WritesCore W g := by exact ⟨fun _ _ _ _ _ => rfl, fun _ => keeps_of_within rfl⟩) : Runs W e :=
  Tail.runs (fun _ => .regs g hg) h

/-- A charge, then writes of registers. -/
theorem runs_tick (n : Nat) (g : State → State → State) (h : ∀ s, e s = .next (g s (s.tick n)))
    (hc : ∀ (c : State) (m : Memory) (l : List (List EnvAction)), g { c with mem := m, inside := l } = g c := by
      intro _ _ _; rfl)
    (hg : ∀ c, WritesCore W (g c) := by exact fun _ => ⟨fun _ _ _ _ _ => rfl, fun _ => keeps_of_within rfl⟩) :
    Runs W e :=
  Tail.runs (fun c => .seq (.tick n) (.regs (g c) (hg c))) h (by simp only [hc, implies_true])

end

/-! ## The meanings that store a byte or a word -/

/-- A word to the stack below `sp`, the high byte first. -/
def State.pushAt (s : State) (sp v : Word) : State :=
  (((s.setSp (sp - 1#16)).memWrite (sp - 1#16) (hi8 v)).setSp (sp - 2#16)).memWrite (sp - 2#16) (lo8 v)

theorem State.push16_eq_pushAt (s : State) (v : Word) : s.push16 v = s.pushAt s.sp v := by
  simp [State.push16, State.pushAt, sub_one_sub_one]

theorem State.call_eq_pushAt (s : State) (nn : Word) :
    s.call nn = (((s.tick 1).pushAt s.sp s.pc).setPc nn).setWz nn := by
  simp [State.call, State.push16_eq_pushAt]

section

variable {W : Effect → Bool} {e : State → Result} {a : State → Word} {v : State → Byte} {w x : State → Word}

/-- A byte to memory, with `w` in WZ before it. -/
theorem runs_store (hW : W .memWrite = true) (h : ∀ s, e s = .next ((s.setWz (w s)).memWrite (a s) (v s)))
    (ha : ReadsCore a := by intro _ _ _ _ _; rfl) (hv : ReadsCore v := by intro _ _ _ _ _; rfl)
    (hw : ReadsCore w := by intro _ _ _ _ _; rfl) : Runs W e :=
  Tail.runs (fun c => .seq (.regs _ (writesCore_setWz (w c))) (.memWrite (a c) (v c) hW)) h fun c m l => by
    simp only [ha c m c.req l c.trace, hv c m c.req l c.trace, hw c m c.req l c.trace]

/-- A to memory and then WZ (41_load_8bit.md R187 to R189). -/
theorem runs_storeA (hW : W .memWrite = true) (h : ∀ s, e s = .next (s.storeA (a s)))
    (ha : ReadsCore a := by intro _ _ _ _ _; rfl) : Runs W e :=
  Tail.runs (k := fun c t => (t.memWrite (a c) c.a).setWz (join16 c.a (lo8 (a c) + 1#8)))
    (fun _ => .seq (.memWrite _ _ hW) (.regs _ (writesCore_setWz _))) h fun c m l => by
      simp only [ha c m c.req l c.trace]

/-- A word to memory and then WZ (42_load_16bit.md R205 to R207). -/
theorem runs_storeWord (nn : Word) (hW : W .memWrite = true)
    (h : ∀ s, e s = .next ((s.memWrite16 nn (x s)).setWz (nn + 1#16)))
    (hx : ReadsCore x := by intro _ _ _ _ _; rfl) : Runs W e :=
  Tail.runs
    (fun c => .seq (.seq (.memWrite nn (lo8 (x c)) hW) (.memWrite (nn + 1#16) (hi8 (x c)) hW))
      (.regs _ (writesCore_setWz (nn + 1#16))))
    h fun c m l => by simp only [hx c m c.req l c.trace]

theorem tail_pushAt (sp v : Word) (hW : W .memWrite = true) (hsp : W .sp = true) :
    Tail W (State.pushAt · sp v) := by
  have hset (u : Word) : Tail W (State.setSp · u) :=
    .regs _ (writesCore_setSp hsp u)
  exact .seq (.seq (.seq (hset _) (.memWrite _ _ hW)) (hset _)) (.memWrite _ _ hW)

/-- A word to the stack after a charge (42_load_16bit.md R210, R211). -/
theorem runs_push (hW : W .memWrite = true) (hsp : W .sp = true)
    (h : ∀ s, e s = .next ((s.tick 1).push16 (x s))) (hx : ReadsCore x := by intro _ _ _ _ _; rfl) :
    Runs W e :=
  Tail.runs (k := fun c t => (t.tick 1).pushAt c.sp (x c))
    (fun _ => .seq (.tick 1) (tail_pushAt _ _ hW hsp))
    (fun s => by rw [h, State.push16_eq_pushAt, State.tick_sp]) fun c m l => by
      simp only [hx c m c.req l c.trace]

/-- A call (48_jump_call_return.md R327, R335). -/
theorem tail_call (sp pc nn : Word) (hW : W .memWrite = true) (hsp : W .sp = true) (hpc : W .pc = true) :
    Tail W fun t => (((t.tick 1).pushAt sp pc).setPc nn).setWz nn :=
  .seq (.seq (.seq (.tick 1) (tail_pushAt sp pc hW hsp))
    (.regs _ (writesCore_setPc hpc nn)))
    (.regs _ (writesCore_setWz nn))

theorem runs_call (nn : Word) (hW : W .memWrite = true) (hsp : W .sp = true) (hpc : W .pc = true)
    (h : ∀ s, e s = .next (s.call nn)) : Runs W e :=
  Tail.runs (fun c => tail_call c.sp c.pc nn hW hsp hpc) fun s => by rw [h, State.call_eq_pushAt]

end

/-! ## The meanings that read memory -/

section

variable {W : Effect → Bool} {e : State → Result} {a w : State → Word}

/-- A byte of memory and then `g`, with `w` in WZ before it. -/
theorem runs_useByte {g : State → Byte → State → State} (hW : W .memRead = true)
    (h : ∀ s, e s = .next ((s.setWz (w s)).useByte (a s) (g s))) (hk : ∀ c v, Tail W (g c v))
    (ha : ReadsCore a := by intro _ _ _ _ _; rfl) (hw : ReadsCore w := by intro _ _ _ _ _; rfl)
    (hg : ReadsCore g := by intro _ _ _ _ _; rfl) : Runs W e :=
  Meaning.runs (fun c => .regs _ (.read (a c) (hk c) hW) (writesCore_setWz (w c))) h fun c m l => by
    simp only [ha c m c.req l c.trace, hw c m c.req l c.trace, hg c m c.req l c.trace]

/-- The same at an indexed address, which goes to WZ. -/
theorem runs_useXyd {x : Idx} {d : Byte} {g : Byte → State → State} (hW : W .memRead = true)
    (h : ∀ s, e s = .next (s.useXyd x d g)) (hk : ∀ v, Tail W (g v)) : Runs W e :=
  runs_useByte (a := (State.xydAddr · x d)) (w := (State.xydAddr · x d)) (g := fun _ => g) hW h (fun _ => hk)
    (readsCore_xydAddr x d) (readsCore_xydAddr x d)

/-- A byte of memory that `k` turns into the byte `op` says and the flags. -/
structure Modifies (W : Effect → Bool) (k : Byte → State → Byte × State) (op : Byte → Byte → Byte) :
    Prop where
  value : ∀ v t, (k v t).1 = op v t.f := by exact fun _ _ => rfl
  regs : ∀ v, WritesCore W fun t => (k v t).2 := by exact fun _ => ⟨fun _ _ _ _ _ => rfl, fun _ => rfl⟩

section

variable {k : Byte → State → Byte × State} {op : Byte → Byte → Byte} (hk : Modifies W k op)
  (ha : ReadsCore a) (hw : ReadsCore w) (hW : W .memWrite = true) (hR : W .memRead = true)
include hk ha hw hW hR

/-- A byte of memory modified at its place and then `g` of the byte stored, with `w` in WZ before it. -/
theorem runs_modifyByte_then {g : Byte → State → State} (hg : ∀ v, WritesCore W (g v))
    (h : ∀ s, e s = .next
      (g (op ((s.setWz (w s)).memRead (a s)).1 s.f) ((s.setWz (w s)).modifyByte (a s) k))) : Runs W e := by
  have hmod (c : State) (v : Byte) :
      Tail W fun t => g (op v c.f) (((k v t).2.tick 1).memWrite (a c) (op v c.f)) :=
    .seq (.seq (.seq (.regs _ (hk.regs v)) (.tick 1)) (.memWrite (a c) (op v c.f) hW)) (.regs _ (hg _))
  refine Meaning.runs (fun c => .regs _ (.read (a c) (hmod c) hR) (writesCore_setWz (w c))) (fun s => ?exec)
    fun c m l => ?frozen
  case exec => rw [h, State.modifyByte_eq, hk.value, State.memRead_f, State.setWz_f]
  case frozen => simp only [ha c m c.req l c.trace, hw c m c.req l c.trace]

theorem runs_modifyByte (h : ∀ s, e s = .next ((s.setWz (w s)).modifyByte (a s) k)) : Runs W e :=
  runs_modifyByte_then hk ha hw hW hR (g := fun _ t => t)
    (fun _ => writesCore_id) h

theorem runs_modifyByteCopy {r : Reg8} (h : ∀ s, e s = .next ((s.setWz (w s)).modifyByteCopy (a s) k r)) :
    Runs W e :=
  runs_modifyByte_then hk ha hw hW hR (g := fun v t => t.setR8 r v)
    (fun _ => writesCore_setR8 r fun _ _ _ _ _ => rfl)
    fun s => by rw [h, State.modifyByteCopy_eq, hk.value, State.memRead_f, State.setWz_f]

end

theorem modifies_rotByte (hf : W .f = true) (k : Rot) :
    Modifies W (State.rotByte k) fun v f => (rot8 k v (flagC f)).1 where
  value _ _ := rfl
  regs _ := writesCore_setF hf fun _ _ _ _ _ => rfl

theorem modifies_incByte (hf : W .f = true) : Modifies W State.incByte fun v f => (inc8 v f).1 where
  value _ _ := rfl
  regs _ := writesCore_setF hf fun _ _ _ _ _ => rfl

theorem modifies_decByte (hf : W .f = true) : Modifies W State.decByte fun v f => (dec8 v f).1 where
  value _ _ := rfl
  regs _ := writesCore_setF hf fun _ _ _ _ _ => rfl

theorem modifies_resBit (b : BitNo) : Modifies W (State.resBit b) fun v _ => v &&& ~~~bitMask b where
  value _ _ := rfl
  regs _ := writesCore_id

theorem modifies_setBit (b : BitNo) : Modifies W (State.setBit b) fun v _ => v ||| bitMask b where
  value _ _ := rfl
  regs _ := writesCore_id

/-! SP is not looked at by the bus, so a pop is a read of a word and then a write of SP. -/

theorem State.setSp_acts (v : Word) (l : List EnvAction) :
    ∀ s : State, (s.setSp v).acts l = (s.acts l).setSp v := by
  induction l with
  | nil => exact fun _ => rfl
  | cons x l ih =>
    intro s
    have hact : (s.setSp v).act x = (s.act x).setSp v := by cases x <;> rfl
    rw [State.acts_cons, State.acts_cons, hact, ih]

theorem State.setSp_react (s : State) (v : Word) : (s.setSp v).react = s.react.setSp v := by
  cases h : s.inside with
  | nil => rw [State.react_quiet _ h, State.react_quiet (s.setSp v) h]
  | cons l rest =>
    rw [State.react_cons _ h, State.react_cons (s.setSp v) h]
    exact State.setSp_acts v l (s.setInside rest)

theorem State.setSp_memRead (s : State) (v a : Word) :
    (s.setSp v).memRead a = ((s.memRead a).1, (s.memRead a).2.setSp v) := by
  have htick (t : State) : (t.setSp v).tick tMem = (t.tick tMem).setSp v := State.setSp_react (t.emit _) v
  simp only [State.memRead, State.busRead, State.setSp_react]
  exact congrArg (Prod.mk _) (htick (s.react.emit _))

theorem State.pop16_eq (s : State) :
    s.pop16 = ((s.memRead16 s.sp).1, (s.memRead16 s.sp).2.setSp (s.sp + 2#16)) := by
  simp only [State.pop16, State.memRead16, State.setSp_memRead, State.memRead_sp, State.setSp_sp,
    add_one_add_one]
  rfl

/-- The word at SP and then `g`, SP two higher. -/
theorem meaning_pop {g : Word → State → State} (sp : Word) (hR : W .memRead = true) (hsp : W .sp = true)
    (hg : ∀ v, WritesCore W (g v)) :
    Meaning W fun s => g (s.memRead16 sp).1 ((s.memRead16 sp).2.setSp (sp + 2#16)) :=
  .read16 sp (fun v => .seq (.regs _ (writesCore_setSp hsp _)) (.regs _ (hg v))) hR

theorem runs_pop {g : Word → State → State} (hR : W .memRead = true) (hsp : W .sp = true)
    (h : ∀ s, e s = .next (g s.pop16.1 s.pop16.2)) (hg : ∀ v, WritesCore W (g v)) : Runs W e :=
  Meaning.runs (fun c => meaning_pop c.sp hR hsp hg) fun s => by rw [h, State.pop16_eq]

/-- The word at SP exchanged with a register (43_exchange_block.md R223, R224). -/
theorem runs_exAtSp {x : State → Word} {g : Word → State → State} (hR : W .memRead = true)
    (hW : W .memWrite = true) (h : ∀ s, e s = .next (g (s.exAtSp (x s)).1 (s.exAtSp (x s)).2))
    (hg : ∀ v, WritesCore W (g v)) (hx : ReadsCore x) : Runs W e :=
  Meaning.runs
    (fun c => .read16 c.sp (fun v => .seq (.seq (.seq (.seq (.tick 1)
      (.memWrite (c.sp + 1#16) (hi8 (x c)) hW)) (.memWrite c.sp (lo8 (x c)) hW)) (.tick 2)) (.regs (g v) (hg v))) hR)
    (fun s => by rw [h, State.exAtSp_eq]) fun c m l => by simp only [hx c m c.req l c.trace]

/-- A byte tested (47_rotate_shift_bit.md R310, R311), with `w` in WZ before it. -/
theorem runs_testByte (b : BitNo) (hf : W .f = true) (hR : W .memRead = true)
    (h : ∀ s, e s = .next ((s.setWz (w s)).testByte (a s) b)) (ha : ReadsCore a) (hw : ReadsCore w) : Runs W e :=
  Meaning.runs
    (fun c => .regs _ (.read (a c)
      (fun v => .seq (.tick 1) (.regs _ (writesCore_setF (f := fun _ => bitF b v (hi8 (w c)) c.f) hf
        fun _ _ _ _ _ => rfl))) hR) (writesCore_setWz (w c)))
    (fun s => by rw [h, State.testByte_eq, State.setWz_wz, State.setWz_f])
    fun c m l => by simp only [ha c m c.req l c.trace, hw c m c.req l c.trace]

end

/-! ## The two addresses of a memory operand -/

section

variable {W : Effect → Bool} {e : State → Result} {x : Idx} {d : Byte} (hR : W .memRead = true)
include hR

theorem runs_useByte_hl {g : Byte → State → State} (hg : ∀ v, Tail W (g v))
    (h : ∀ s, e s = .next (s.useByte s.hl g)) : Runs W e :=
  runs_useByte (w := (·.wz)) (g := fun _ => g) hR h fun _ => hg

theorem runs_loadA {a : State → Word} (h : ∀ s, e s = .next (s.loadA (a s)))
    (ha : ReadsCore a := by intro _ _ _ _ _; rfl) : Runs W e :=
  Meaning.runs (k := fun c t => ((t.memRead (a c)).2.setA (t.memRead (a c)).1).setWz (a c + 1#16))
    (fun c => .read (a c) (fun v => .seq (.regs (State.setA · v) (writesCore_setR8 .a fun _ _ _ _ _ => rfl))
      (.regs _ (writesCore_setWz (a c + 1#16)))) hR)
    h fun c m l => by simp only [ha c m c.req l c.trace]

theorem runs_testByte_hl (b : BitNo) (hf : W .f = true) (h : ∀ s, e s = .next (s.testByte s.hl b)) : Runs W e :=
  runs_testByte (w := (·.wz)) b hf hR h (fun _ _ _ _ _ => rfl) fun _ _ _ _ _ => rfl

theorem runs_testXyd (b : BitNo) (hf : W .f = true) (h : ∀ s, e s = .next (s.testXyd b x d)) : Runs W e :=
  runs_testByte b hf hR h (readsCore_xydAddr x d) (readsCore_xydAddr x d)

variable {k : Byte → State → Byte × State} {op : Byte → Byte → Byte} (hW : W .memWrite = true)
  (hk : Modifies W k op)
include hW hk

theorem runs_modifyByte_hl (h : ∀ s, e s = .next (s.modifyByte s.hl k)) : Runs W e :=
  runs_modifyByte (w := (·.wz)) hk (fun _ _ _ _ _ => rfl) (fun _ _ _ _ _ => rfl) hW hR h

theorem runs_modifyByte_xyd (h : ∀ s, e s = .next ((s.idx x d).2.modifyByte (s.idx x d).1 k)) : Runs W e :=
  runs_modifyByte hk (readsCore_xydAddr x d) (readsCore_xydAddr x d) hW hR h

theorem runs_modifyByteCopy_xyd {r : Reg8}
    (h : ∀ s, e s = .next ((s.idx x d).2.modifyByteCopy (s.idx x d).1 k r)) : Runs W e :=
  runs_modifyByteCopy hk (readsCore_xydAddr x d) (readsCore_xydAddr x d) hW hR h

end

/-! ## The block transfers and searches -/

/-- The repeat looks at PC, which the bus operations before it keep. -/
theorem tail_repeatBlockWz {W : Effect → Bool} (hpc : W .pc = true) : Tail W State.repeatBlockWz := by
  have hrepeat (s : State) :
      s.repeatBlockWz = ((s.tick 5).setPc ((s.tick 5).pc - 2#16)).setWz ((s.tick 5).pc - 2#16 + 1#16) := by
    simp [State.repeatBlockWz, State.repeatBlock]
  rw [funext hrepeat]
  exact .seq (.tick 5) (.regs (fun t => (t.setPc (t.pc - 2#16)).setWz (t.pc - 2#16 + 1#16))
    ⟨fun _ _ _ _ _ => rfl, fun _ e he => by cases e <;> simp_all [Effect.view]⟩)

theorem tail_repeatBlock {W : Effect → Bool} (hpc : W .pc = true) : Tail W State.repeatBlock := by
  have hrepeat (s : State) : s.repeatBlock = (s.tick 5).setPc ((s.tick 5).pc - 2#16) := by
    simp [State.repeatBlock]
  rw [funext hrepeat]
  exact .seq (.tick 5) (.regs (fun t => t.setPc (t.pc - 2#16))
    ⟨fun _ _ _ _ _ => rfl, fun _ e he => by cases e <;> simp_all [Effect.view]⟩)

section

variable {W : Effect → Bool} {e : State → Result} (dir : Dir)

/-- One iteration of a block transfer, and then `g`. -/
theorem runs_blockLd {g : State → State} (hg : Tail W g) (hf : W .f = true) (hW : W .memWrite = true)
    (hR : W .memRead = true) (h : ∀ s, e s = .next (g (s.blockLd dir))) : Runs W e := by
  have hregs (v : Byte) : WritesCore W (State.ldRegs · v dir.step16) :=
    ⟨fun _ _ _ _ _ => rfl, fun _ e he => by cases e <;> simp_all [Effect.view, State.ldRegs]⟩
  exact Meaning.runs
    (fun c => .read c.hl (fun v => .seq (.seq (.seq (.memWrite c.de v hW) (.tick 2)) (.regs _ (hregs v))) hg) hR)
    fun s => by rw [h, State.blockLd_eq, State.ldBus]

/-- One iteration of a block search, and then `g`, which is given the difference. -/
theorem runs_blockCp {g : Byte → State → State} (hg : ∀ r, Tail W (g r)) (hf : W .f = true)
    (hR : W .memRead = true) (h : ∀ s, e s = .next (g (s.blockCp dir).1 (s.blockCp dir).2)) : Runs W e := by
  have hregs (v : Byte) : WritesCore W (State.cpRegs · v dir.step16) :=
    ⟨fun _ _ _ _ _ => rfl, fun _ e he => by cases e <;> simp_all [Effect.view, State.cpRegs]⟩
  exact Meaning.runs
    (fun c => .read c.hl (fun v => .seq (.seq (.tick 5) (.regs _ (hregs v))) (hg (c.a - v))) hR)
    fun s => by rw [h, State.blockCp_eq, State.cpBus]

end

/-! ## The digit rotates -/

theorem runs_digit {W : Effect → Bool} {e : State → Result} (a v : Byte → Byte → Byte) (hf : W .f = true)
    (hW : W .memWrite = true) (hR : W .memRead = true)
    (h : ∀ s, e s =
      .next ((s.digitBus (v (s.memRead s.hl).1 s.a)).digitRegs (a (s.memRead s.hl).1 s.a))) : Runs W e := by
  have hregs (x : Byte) : WritesCore W (State.digitRegs · x) :=
    ⟨fun _ _ _ _ _ => rfl, fun _ e he => by cases e <;> simp_all [Effect.view, State.digitRegs]⟩
  exact Meaning.runs
    (fun c => .read c.hl (fun t => .seq (.seq (.tick 4) (.memWrite c.hl (v t c.a) hW))
      (.regs _ (hregs (a t c.a)))) hR) h

/-! ## The block input and output -/

/-- The registers R348 and R350 write when the port answered `t`. -/
def State.inRegs (s : State) (dir : Dir) (t : Byte) : State :=
  (((s.setWz (s.bc + dir.step16)).setB (s.b - 1#8)).setHl (s.hl + dir.step16)).setF
    (ioBlockF t (t.toNat + (s.c + dir.step8).toNat) (s.b - 1#8))

/-- The registers R352 and R354 write when the byte is `t` and B has been counted down. -/
def State.outRegs (s : State) (dir : Dir) (t : Byte) : State :=
  ((s.setHl (s.hl + dir.step16)).setWz (s.bc + dir.step16)).setF
    (ioBlockF t (t.toNat + (lo8 (s.hl + dir.step16)).toNat) s.b)

theorem State.blockIn_eq (s : State) (dir : Dir) :
    s.blockIn dir =
      (((s.tick 1).portRead s.bc).2.memWrite s.hl ((s.tick 1).portRead s.bc).1).inRegs dir
        ((s.tick 1).portRead s.bc).1 := by
  simp [State.blockIn, State.inRegs, State.hl, State.bc]

theorem State.blockOut_eq (s : State) (dir : Dir) :
    s.blockOut dir =
      (((((s.tick 1).memRead s.hl).2.setB (s.b - 1#8)).portWrite (join16 (s.b - 1#8) s.c)
        ((s.tick 1).memRead s.hl).1).outRegs dir ((s.tick 1).memRead s.hl).1) := by
  simp [State.blockOut, State.outRegs, State.bc]

theorem tail_repeatWhileB {W : Effect → Bool} (hpc : W .pc = true) : Tail W State.repeatWhileB :=
  .ite (fun s => s.b != 0#8) (tail_repeatBlock hpc) (.regs _ writesCore_id)

section

variable {W : Effect → Bool} {e : State → Result} (dir : Dir) {g : State → State} (hg : Tail W g)
  (hf : W .f = true) (hP : W .port = true)
include hg hf hP

/-- One iteration of a block input, and then `g`. -/
theorem runs_blockIn (hW : W .memWrite = true) (h : ∀ s, e s = .next (g (s.blockIn dir))) : Runs W e := by
  have hregs (v : Byte) : WritesCore W (State.inRegs · dir v) :=
    ⟨fun _ _ _ _ _ => rfl, fun _ e he => by cases e <;> simp_all [Effect.view, State.inRegs]⟩
  exact Tail.runs
    (fun c => .seq (.seq (.tick 1)
      (.portRead c.bc (fun v => .seq (.memWrite c.hl v hW) (.regs _ (hregs v))) hP)) hg)
    fun s => by rw [h, State.blockIn_eq]

/-- One iteration of a block output, and then `g`. -/
theorem runs_blockOut (hR : W .memRead = true) (h : ∀ s, e s = .next (g (s.blockOut dir))) : Runs W e := by
  have hregs (v : Byte) : WritesCore W (State.outRegs · dir v) :=
    ⟨fun _ _ _ _ _ => rfl, fun _ e he => by cases e <;> simp_all [Effect.view, State.outRegs]⟩
  have hb (b : Byte) : WritesCore W (State.setB · b) :=
    ⟨fun _ _ _ _ _ => rfl, fun _ e he => by cases e <;> simp_all [Effect.view]⟩
  exact Meaning.runs
    (fun c => .tick 1 (.read c.hl (fun v => .seq (.seq (.seq (.regs _ (hb (c.b - 1#8)))
      (.portWrite (join16 (c.b - 1#8) c.c) v hP)) (.regs _ (hregs v))) hg) hR))
    fun s => by rw [h, State.blockOut_eq]

end

/-! ## The instructions -/

/-- A register of the two ALU shapes: `(A, F) <- rf`. -/
theorem writesCore_setAccF {W : Effect → Bool} (hW : W .f = true) {rf : State → Byte × Byte}
    (hrf : ReadsCore rf) : WritesCore W fun s => s.setAccF (rf s) where
  core s m q l tr := by
    simp only [hrf s m q l tr]
    rfl
  keeps s e he := by cases e <;> simp_all [Effect.view, State.setAccF]


end Sys2Proof.Machine
end

section
/-! SUPPORT. The meanings by family: the accumulator operations, the rotates, the jumps, pops and ports. -/

namespace Sys2Proof.Machine

theorem Tail.runs_ite {W : Effect → Bool} {e : State → Result} (c : State → Bool) {f : State → State}
    (hf : Tail W f) (h : ∀ s, e s = .next (if c s = true then f s else s)) (hc : ReadsCore c := by intro _ _ _ _ _; rfl) :
    Runs W e :=
  Tail.runs (fun _ => .ite c hf (.regs _ writesCore_id) hc) h

/-! ## The eight accumulator operations and the eight rotates, in each operand form -/

theorem exec_rotAtXyd (s : State) (x : Idx) (d : Byte) : ∀ y, exec (rotAtXyd y x d) s =
    .next ((s.setWz (s.xydAddr x d)).modifyByte (s.xydAddr x d) (State.rotByte (rotKind y)))
  | 0 | 1 | 2 | 3 | 4 | 5 | 6 | _ + 7 => rfl

theorem exec_rotAtXydR (s : State) (x : Idx) (d : Byte) (r : Reg8) : ∀ y, exec (rotAtXydR y x d r) s =
    .next ((s.setWz (s.xydAddr x d)).modifyByteCopy (s.xydAddr x d) (State.rotByte (rotKind y)) r)
  | 0 | 1 | 2 | 3 | 4 | 5 | 6 | _ + 7 => rfl

theorem writesCore_accAlu {W : Effect → Bool} (hW : W .f = true) (k : Nat) {v : State → Byte} (hv : ReadsCore v) :
    WritesCore W fun s => s.accAlu k (v s) :=
  writesCore_setAccF hW (rf := fun s => aluResult k s.a s.f (v s)) fun s m q l tr => by simp only [hv s m q l tr]

theorem aluR_runs (r : Reg8) (k : Nat) : Runs (allowed (aluR k r)) (exec (aluR k r)) := by
  have hf : ∀ k, allowed (aluR k r) .f = true
    | 0 | 1 | 2 | 3 | 4 | 5 | 6 | _ + 7 => rfl
  exact runs_regs (exec_aluR · r k) (writesCore_accAlu (hf k) k fun _ _ _ _ _ => rfl)

theorem aluN_runs (n : Byte) (k : Nat) : Runs (allowed (aluN k n)) (exec (aluN k n)) := by
  have hf : ∀ k, allowed (aluN k n) .f = true
    | 0 | 1 | 2 | 3 | 4 | 5 | 6 | _ + 7 => rfl
  exact runs_regs (exec_aluN · n k) (writesCore_accAlu (hf k) k fun _ _ _ _ _ => rfl)

theorem aluHalf_runs (x : Idx) (hf : Half) (k : Nat) : Runs (allowed (aluHalf k x hf)) (exec (aluHalf k x hf)) := by
  have hW : ∀ k, allowed (aluHalf k x hf) .f = true
    | 0 | 1 | 2 | 3 | 4 | 5 | 6 | _ + 7 => rfl
  exact runs_regs (exec_aluHalf · x hf k) (writesCore_accAlu (hW k) k (readsCore_half x hf))

theorem aluAtHl_runs (k : Nat) : Runs (allowed (aluAtHl k)) (exec (aluAtHl k)) := by
  have hW : ∀ k, allowed (aluAtHl k) .memRead = true ∧ allowed (aluAtHl k) .f = true
    | 0 | 1 | 2 | 3 | 4 | 5 | 6 | _ + 7 => ⟨rfl, rfl⟩
  exact runs_useByte_hl (hW k).1 (fun _ => .regs _ (writesCore_accAlu (hW k).2 k fun _ _ _ _ _ => rfl))
    (exec_aluAtHl · k)

theorem aluAtXyd_runs (x : Idx) (d : Byte) (k : Nat) : Runs (allowed (aluAtXyd k x d)) (exec (aluAtXyd k x d)) := by
  have hW : ∀ k, allowed (aluAtXyd k x d) .memRead = true ∧ allowed (aluAtXyd k x d) .f = true
    | 0 | 1 | 2 | 3 | 4 | 5 | 6 | _ + 7 => ⟨rfl, rfl⟩
  exact runs_useXyd (g := State.accAlu k) (hW k).1 (exec_aluAtXyd · x d k)
    fun v => .regs _ (writesCore_accAlu (v := fun _ => v) (hW k).2 k fun _ _ _ _ _ => rfl)

theorem rotR_runs (r : Reg8) (k : Nat) : Runs (allowed (rotR k r)) (exec (rotR k r)) := by
  have hW : ∀ k, allowed (rotR k r) .f = true
    | 0 | 1 | 2 | 3 | 4 | 5 | 6 | _ + 7 => rfl
  exact runs_regs (exec_rotR · r k) (writesCore_setF_setR8 (hW k) r (fun _ _ _ _ _ => rfl) fun _ _ _ _ _ => rfl)

/-- What a rotate of a byte in memory is allowed. -/
def allowsRotate (W : Effect → Bool) : Prop := W .memRead = true ∧ W .memWrite = true ∧ W .f = true

theorem rotAtHl_runs (k : Nat) : Runs (allowed (rotAtHl k)) (exec (rotAtHl k)) := by
  have hW : ∀ k, allowsRotate (allowed (rotAtHl k))
    | 0 | 1 | 2 | 3 | 4 | 5 | 6 | _ + 7 => ⟨rfl, rfl, rfl⟩
  obtain ⟨hR, hW, hf⟩ := hW k
  exact runs_modifyByte_hl hR hW (modifies_rotByte hf _) (exec_rotAtHl · k)

theorem rotAtXyd_runs (x : Idx) (d : Byte) (k : Nat) : Runs (allowed (rotAtXyd k x d)) (exec (rotAtXyd k x d)) := by
  have hW : ∀ k, allowsRotate (allowed (rotAtXyd k x d))
    | 0 | 1 | 2 | 3 | 4 | 5 | 6 | _ + 7 => ⟨rfl, rfl, rfl⟩
  obtain ⟨hR, hW, hf⟩ := hW k
  exact runs_modifyByte_xyd (x := x) (d := d) hR hW (modifies_rotByte hf (rotKind k)) (exec_rotAtXyd · x d k)

theorem rotAtXydR_runs (x : Idx) (d : Byte) (r : Reg8) (k : Nat) :
    Runs (allowed (rotAtXydR k x d r)) (exec (rotAtXydR k x d r)) := by
  have hW : ∀ k, allowsRotate (allowed (rotAtXydR k x d r))
    | 0 | 1 | 2 | 3 | 4 | 5 | 6 | _ + 7 => ⟨rfl, rfl, rfl⟩
  obtain ⟨hR, hW, hf⟩ := hW k
  exact runs_modifyByteCopy_xyd (x := x) (d := d) hR hW (modifies_rotByte hf (rotKind k)) (exec_rotAtXydR · x d r k)

/-! ## The jumps, the pops and the ports -/

theorem State.jumpRel_eq (s : State) (e : Byte) :
    s.jumpRel e = ((s.tick 5).setPc ((s.tick 5).pc + sext8 e)).setWz ((s.tick 5).pc + sext8 e) := by
  simp [State.jumpRel]

theorem tail_jumpRel {W : Effect → Bool} (hpc : W .pc = true) (e : Byte) : Tail W (State.jumpRel · e) := by
  rw [funext (State.jumpRel_eq · e)]
  exact .seq (.tick 5) (.regs (fun t => (t.setPc (t.pc + sext8 e)).setWz (t.pc + sext8 e))
    ⟨fun _ _ _ _ _ => rfl, fun _ e he => by cases e <;> simp_all [Effect.view]⟩)

theorem writesCore_popPc {W : Effect → Bool} (hpc : W .pc = true) (v : Word) :
    WritesCore W fun t => (t.setPc v).setWz v :=
  (writesCore_setPc hpc v).comp (writesCore_setWz v)

theorem writesCore_returnFromHandler {W : Effect → Bool} (hpc : W .pc = true) (hi : W .iff1 = true) (v : Word) :
    WritesCore W fun t => ((t.setPc v).setWz v).setIff1 t.iff2 where
  core _ _ _ _ _ := rfl
  keeps _ e he := by cases e <;> simp_all [Effect.view]

section

variable {W : Effect → Bool} {e : State → Result}

theorem runs_returnFromHandler (hR : W .memRead = true) (hsp : W .sp = true) (hpc : W .pc = true)
    (hi : W .iff1 = true) (h : ∀ s, e s = .next s.returnFromHandler) : Runs W e :=
  runs_pop hR hsp h (writesCore_returnFromHandler hpc hi)

/-- A word of memory, and then `g`. -/
theorem runs_memRead16 {g : Word → State → State} (nn : Word) (hR : W .memRead = true)
    (h : ∀ s, e s = .next (g (s.memRead16 nn).1 (s.memRead16 nn).2)) (hg : ∀ v, WritesCore W (g v)) : Runs W e :=
  Meaning.runs (fun _ => .read16 nn (fun v => .regs (g v) (hg v)) hR) h

/-- A byte from a port, and then `g`. -/
theorem runs_portRead {p : State → Word} {g : State → Byte → State → State} (hP : W .port = true)
    (h : ∀ s, e s = .next (g s (s.portRead (p s)).1 (s.portRead (p s)).2)) (hg : ∀ c v, WritesCore W (g c v))
    (hp : ReadsCore p := by intro _ _ _ _ _; rfl) (hc : ReadsCore g := by intro _ _ _ _ _; rfl) : Runs W e :=
  Tail.runs (fun c => .portRead (p c) (fun v => .regs (g c v) (hg c v)) hP) h fun c m l => by
    simp only [hp c m c.req l c.trace, hc c m c.req l c.trace]

/-- A byte to a port, and then WZ. -/
theorem runs_portWrite {p w : State → Word} {v : State → Byte} (hP : W .port = true)
    (h : ∀ s, e s = .next ((s.portWrite (p s) (v s)).setWz (w s)))
    (hp : ReadsCore p := by intro _ _ _ _ _; rfl) (hv : ReadsCore v := by intro _ _ _ _ _; rfl)
    (hw : ReadsCore w := by intro _ _ _ _ _; rfl) : Runs W e :=
  Tail.runs (fun c => .seq (.portWrite (p c) (v c) hP) (.regs _ (writesCore_setWz (w c)))) h fun c m l => by
    simp only [hp c m c.req l c.trace, hv c m c.req l c.trace, hw c m c.req l c.trace]

theorem runs_inC {g : Byte → State → State} (hP : W .port = true) (hf : W .f = true)
    (h : ∀ s, e s = .next (g s.inC.1 s.inC.2)) (hg : ∀ v, WritesCore W (g v)) : Runs W e :=
  runs_portRead (p := (·.bc))
    (g := fun c v t => g v (((t.setWz (c.bc + 1#16)).setF (szpKeepC v t.f)))) hP h
    fun c v => ((writesCore_setWz _).comp
      (writesCore_setF (f := fun t => szpKeepC v t.f) hf fun _ _ _ _ _ => rfl)).comp (hg v)

/-- A 16-bit sum or difference and its flags to a register pair, with WZ before it (46_arith_16bit.md). -/
theorem runs_arith16 {d : State → Word} {rf : State → Word × Byte} {set : Word → State → State}
    (hf : W .f = true) (h : ∀ s, e s = .next ((set (rf s).1 ((s.tick 7).setWz (d s + 1#16))).setF (rf s).2))
    (hset : ∀ v, WritesCore W (set v)) (hd : ReadsCore d) (hrf : ReadsCore rf) : Runs W e :=
  Tail.runs
    (fun c => .seq (.tick 7) (.regs _ (((writesCore_setWz (d c + 1#16)).comp (hset (rf c).1)).comp
      (writesCore_setFOf hf (rf c).2)))) h fun c m l => by
    simp only [hd c m c.req l c.trace, hrf c m c.req l c.trace]

theorem runs_arithHl {rf : State → Word × Byte} (hf : W .f = true) (hrf : ReadsCore rf)
    (h : ∀ s, e s = .next ((((s.tick 7).setWz (s.hl + 1#16)).setHl (rf s).1).setF (rf s).2)) : Runs W e :=
  runs_arith16 (d := State.hl) (rf := rf) (set := fun v t => t.setHl v) hf h
    (fun v => writesCore_setRp .hl v nofun) (readsCore_rp .hl) hrf

theorem runs_addXy (x : Idx) (p : RpX) (hf : W .f = true)
    (h : ∀ s, e s = .next ((((s.tick 7).setWz (s.xy x + 1#16)).setXy x (add16 (s.xy x) (s.rpX x p) s.f).1).setF
      (add16 (s.xy x) (s.rpX x p) s.f).2)) : Runs W e :=
  runs_arith16 (d := (State.xy · x)) (rf := fun s => add16 (s.xy x) (s.rpX x p) s.f) (set := fun v t => t.setXy x v)
    hf h (writesCore_setXy x) (readsCore_xy x) fun s m q l tr =>
      congrArg₂ (add16 · · s.f) (readsCore_xy x s m q l tr) (readsCore_rpX x p s m q l tr)

/-- A pair counted up or down after a charge. -/
theorem runs_countRp (p : Rp) (u : Word) (hp : p = .sp → W .sp = true)
    (h : ∀ s, e s = .next ((s.tick 2).setRp p (s.rp p + u))) : Runs W e :=
  runs_tick 2 (fun c t => t.setRp p (c.rp p + u)) h
    (fun c m l => funext fun t => congrArg (fun v => t.setRp p (v + u)) (readsCore_rp p c m c.req l c.trace))
    fun _ => writesCore_setRp p _ hp

theorem runs_countXy (x : Idx) (u : Word) (h : ∀ s, e s = .next ((s.tick 2).setXy x (s.xy x + u))) : Runs W e :=
  runs_tick 2 (fun c t => t.setXy x (c.xy x + u)) h
    (fun c m l => funext fun t => congrArg (fun v => t.setXy x (v + u)) (readsCore_xy x c m c.req l c.trace))
    fun _ => writesCore_setXy x _

end

/-! ## Single instructions -/

theorem djnz_runs (d : Byte) : Runs (allowed (.djnz d)) (exec (.djnz d)) :=
  Tail.runs (fun _ => .seq (.regs (fun s => s.setB (s.b - 1#8)) (writesCore_setR8 .b fun _ _ _ _ _ => rfl))
    (.ite (fun s => s.b != 0#8) (tail_jumpRel rfl d) (.regs _ writesCore_id))) fun _ => rfl

theorem retCc_runs (cc : Cond) : Runs (allowed (.retCc cc)) (exec (.retCc cc)) := by
  refine Meaning.runs
    (k := fun c s => if c.cond cc = true then
      ((((s.tick 1).memRead16 c.sp).2.setSp (c.sp + 2#16)).setPc ((s.tick 1).memRead16 c.sp).1).setWz
        ((s.tick 1).memRead16 c.sp).1 else s.tick 1) (fun c => ?shape) (fun s => ?exec) fun c m l => ?frozen
  case shape =>
    split
    · exact .tick 1 (meaning_pop (g := fun v t => (t.setPc v).setWz v) c.sp rfl rfl (writesCore_popPc rfl))
    · exact .tail (.tick 1)
  case exec =>
    show execRetCc cc s = _
    simp only [execRetCc, State.cond_tick, State.popPc, State.pop16_eq, State.tick_sp]
  case frozen =>
    simp only [readsCore_cond cc c m c.req l c.trace]

end Sys2Proof.Machine
end

section
/-! SUPPORT. Each instruction's meaning has the shape `Meaning` (00_scope.md section 4). -/

namespace Sys2Proof.Machine

/-- Every instruction is made of the parts `Meaning` lists, within what `allowed` says. -/
theorem exec_runs (i : Instr) : Runs (allowed i) (exec i) := by
  cases i with
  -- registers only
  | nop | nopEd | exAfAf | rlca | rrca | rla | rra | daa | cpl | scf | ccf | halt | exx | jpHl | jpNn | exDeHl
  | di | ei | neg | negY | im0 | im1 | im2 | imY =>
    exact runs_regs fun _ => rfl
  | ldDdNn p nn => exact runs_regs (fun _ => rfl) (writesCore_setRp p nn fun h => by rw [h]; rfl)
  | ldXyNn x => exact runs_regs (fun _ => rfl) (writesCore_setXy x _)
  | jpXy x => cases x <;> exact runs_regs fun _ => rfl
  | ldXyhN x n => exact runs_regs (fun _ => rfl) (writesCore_setHalf x .high fun _ _ _ _ _ => rfl)
  | ldXylN x n => exact runs_regs (fun _ => rfl) (writesCore_setHalf x .low fun _ _ _ _ _ => rfl)
  | ldHalfP x hf p => exact runs_regs (fun _ => rfl) (writesCore_setHalf x hf (readsCore_p8 x p))
  | ldPHalf x p hf => exact runs_regs (fun _ => rfl) (writesCore_setP8 x p (readsCore_half x hf))
  | incXyh x | decXyh x | incXyl x | decXyl x => cases x <;> exact runs_regs fun _ => rfl
  | ldRN r | ldRR r | setBR _ r | resBR _ r =>
    exact runs_regs (fun _ => rfl) (writesCore_setR8 r fun _ _ _ _ _ => rfl)
  | incR r | decR r =>
    exact runs_regs (fun _ => rfl)
      (writesCore_setF_setR8 rfl r (fun _ _ _ _ _ => rfl) fun _ _ _ _ _ => rfl)
  | bitBR => exact runs_regs (fun _ => rfl) (writesCore_setF rfl fun _ _ _ _ _ => rfl)
  -- the accumulator operations
  | addAR r => exact aluR_runs r 0
  | adcAR r => exact aluR_runs r 1
  | subR r => exact aluR_runs r 2
  | sbcAR r => exact aluR_runs r 3
  | andR r => exact aluR_runs r 4
  | xorR r => exact aluR_runs r 5
  | orR r => exact aluR_runs r 6
  | cpR r => exact aluR_runs r 7
  | addAN n => exact aluN_runs n 0
  | adcAN n => exact aluN_runs n 1
  | subN n => exact aluN_runs n 2
  | sbcAN n => exact aluN_runs n 3
  | andN n => exact aluN_runs n 4
  | xorN n => exact aluN_runs n 5
  | orN n => exact aluN_runs n 6
  | cpN n => exact aluN_runs n 7
  | addAHalf x hf => exact aluHalf_runs x hf 0
  | adcAHalf x hf => exact aluHalf_runs x hf 1
  | subHalf x hf => exact aluHalf_runs x hf 2
  | sbcAHalf x hf => exact aluHalf_runs x hf 3
  | andHalf x hf => exact aluHalf_runs x hf 4
  | xorHalf x hf => exact aluHalf_runs x hf 5
  | orHalf x hf => exact aluHalf_runs x hf 6
  | cpHalf x hf => exact aluHalf_runs x hf 7
  | addAAtHl => exact aluAtHl_runs 0
  | adcAAtHl => exact aluAtHl_runs 1
  | subAtHl => exact aluAtHl_runs 2
  | sbcAAtHl => exact aluAtHl_runs 3
  | andAtHl => exact aluAtHl_runs 4
  | xorAtHl => exact aluAtHl_runs 5
  | orAtHl => exact aluAtHl_runs 6
  | cpAtHl => exact aluAtHl_runs 7
  | addAAtXyd x d => exact aluAtXyd_runs x d 0
  | adcAAtXyd x d => exact aluAtXyd_runs x d 1
  | subAtXyd x d => exact aluAtXyd_runs x d 2
  | sbcAAtXyd x d => exact aluAtXyd_runs x d 3
  | andAtXyd x d => exact aluAtXyd_runs x d 4
  | xorAtXyd x d => exact aluAtXyd_runs x d 5
  | orAtXyd x d => exact aluAtXyd_runs x d 6
  | cpAtXyd x d => exact aluAtXyd_runs x d 7
  -- the rotates and shifts
  | rlcR r => exact rotR_runs r 0
  | rrcR r => exact rotR_runs r 1
  | rlR r => exact rotR_runs r 2
  | rrR r => exact rotR_runs r 3
  | slaR r => exact rotR_runs r 4
  | sraR r => exact rotR_runs r 5
  | sllR r => exact rotR_runs r 6
  | srlR r => exact rotR_runs r 7
  | rlcAtHl => exact rotAtHl_runs 0
  | rrcAtHl => exact rotAtHl_runs 1
  | rlAtHl => exact rotAtHl_runs 2
  | rrAtHl => exact rotAtHl_runs 3
  | slaAtHl => exact rotAtHl_runs 4
  | sraAtHl => exact rotAtHl_runs 5
  | sllAtHl => exact rotAtHl_runs 6
  | srlAtHl => exact rotAtHl_runs 7
  | rlcAtXyd x d => exact rotAtXyd_runs x d 0
  | rrcAtXyd x d => exact rotAtXyd_runs x d 1
  | rlAtXyd x d => exact rotAtXyd_runs x d 2
  | rrAtXyd x d => exact rotAtXyd_runs x d 3
  | slaAtXyd x d => exact rotAtXyd_runs x d 4
  | sraAtXyd x d => exact rotAtXyd_runs x d 5
  | sllAtXyd x d => exact rotAtXyd_runs x d 6
  | srlAtXyd x d => exact rotAtXyd_runs x d 7
  | rlcAtXydR x d r => exact rotAtXydR_runs x d r 0
  | rrcAtXydR x d r => exact rotAtXydR_runs x d r 1
  | rlAtXydR x d r => exact rotAtXydR_runs x d r 2
  | rrAtXydR x d r => exact rotAtXydR_runs x d r 3
  | slaAtXydR x d r => exact rotAtXydR_runs x d r 4
  | sraAtXydR x d r => exact rotAtXydR_runs x d r 5
  | sllAtXydR x d r => exact rotAtXydR_runs x d r 6
  | srlAtXydR x d r => exact rotAtXydR_runs x d r 7
  -- a charge and registers
  | addHlSs p =>
    exact runs_arithHl (rf := fun s => add16 s.hl (s.rp p) s.f) rfl
      (fun s m q l tr => congrArg (add16 s.hl · s.f) (readsCore_rp p s m q l tr)) fun _ => rfl
  | adcHlSs p =>
    exact runs_arithHl (rf := fun s => adc16 s.hl (s.rp p) (flagC s.f)) rfl
      (fun s m q l tr => congrArg (adc16 s.hl · (flagC s.f)) (readsCore_rp p s m q l tr)) fun _ => rfl
  | sbcHlSs p =>
    exact runs_arithHl (rf := fun s => sbc16 s.hl (s.rp p) (flagC s.f)) rfl
      (fun s m q l tr => congrArg (sbc16 s.hl · (flagC s.f)) (readsCore_rp p s m q l tr)) fun _ => rfl
  | addXyPp x p => exact runs_addXy x p rfl fun _ => rfl
  | incSs p => exact runs_countRp p 1#16 (fun h => by rw [h]; rfl) fun _ => rfl
  | decSs p => exact runs_countRp p (-1#16) (fun h => by rw [h]; rfl) fun s => by rw [← BitVec.sub_eq_add_neg]; rfl
  | incXy x => exact runs_countXy x 1#16 fun _ => rfl
  | decXy x => exact runs_countXy x (-1#16) fun s => by rw [← BitVec.sub_eq_add_neg]; rfl
  | ldSpHl => exact runs_tick 2 (fun c t => t.setSp c.hl) fun _ => rfl
  | ldSpXy x => cases x <;> exact runs_tick 2 (fun c t => t.setSp (c.xy _)) fun _ => rfl
  | ldIA => exact runs_tick 1 (fun c t => t.setI c.a) fun _ => rfl
  | ldRA => exact runs_tick 1 (fun c t => t.setR c.a) fun _ => rfl
  | ldAI => exact runs_tick 1 (fun c t => (t.setA c.i).setF (ldAirF c.i c.f c.iff2)) fun _ => rfl
  | ldAR => exact runs_tick 1 (fun c t => (t.setA c.r).setF (ldAirF c.r c.f c.iff2)) fun _ => rfl
  -- the jumps
  | jr e => exact Tail.runs (fun _ => tail_jumpRel rfl e) fun _ => rfl
  | jrCc cc e => exact Tail.runs_ite _ (tail_jumpRel rfl e) (fun _ => rfl) (readsCore_condJr cc)
  | djnz e => exact djnz_runs e
  | jpCcNn cc nn =>
    exact Tail.runs (fun _ => .ite _ (.regs fun t => (t.setWz nn).setPc nn) (.regs _ (writesCore_setWz nn))
      (readsCore_cond cc)) fun _ => rfl
  -- stores
  | ldAtHlR | ldAtHlN => exact runs_store (w := (·.wz)) rfl fun _ => rfl
  | ldAtXydR x d | ldAtXydN x d =>
    exact runs_store rfl (fun _ => rfl) (readsCore_xydAddr x d) (hw := readsCore_xydAddr x d)
  | ldAtBcA | ldAtDeA | ldAtNnA => exact runs_storeA rfl fun _ => rfl
  | ldAtNnHl nn => exact runs_storeWord nn rfl fun _ => rfl
  | ldAtNnXy nn x => exact runs_storeWord nn rfl (fun _ => rfl) (readsCore_xy x)
  | ldAtNnDd nn p => exact runs_storeWord nn rfl (fun _ => rfl) (readsCore_rp p)
  | pushQq q => exact runs_push rfl rfl (fun _ => rfl) (readsCore_rp2 q)
  | pushXy x => exact runs_push rfl rfl (fun _ => rfl) (readsCore_xy x)
  | callNn | rstP => exact runs_call _ rfl rfl rfl fun _ => rfl
  | callCcNn cc nn =>
    exact Tail.runs (fun c => .ite _ (tail_call c.sp c.pc nn rfl rfl rfl) (.regs _ (writesCore_setWz nn))
      (readsCore_cond cc)) fun s => by
        show execCallCcNn cc nn s = _
        rw [execCallCcNn, State.call_eq_pushAt]
  -- reads
  | ldRAtHl r =>
    exact runs_useByte_hl rfl (fun v => .regs _ (writesCore_setR8 r (v := fun _ => v) fun _ _ _ _ _ => rfl))
      fun _ => rfl
  | ldRAtXyd r =>
    exact runs_useXyd rfl (fun _ => rfl) fun v =>
      .regs _ (writesCore_setR8 r (v := fun _ => v) fun _ _ _ _ _ => rfl)
  | ldAAtBc | ldAAtDe | ldAAtNn => exact runs_loadA rfl fun _ => rfl
  | ldHlAtNn nn =>
    exact runs_memRead16 (g := fun v t => (t.setHl v).setWz (nn + 1#16)) nn rfl (fun _ => rfl)
      fun v => (writesCore_setRp .hl v nofun).comp (writesCore_setWz _)
  | ldDdAtNn p nn =>
    exact runs_memRead16 (g := fun v t => (t.setRp p v).setWz (nn + 1#16)) nn rfl (fun _ => rfl)
      fun v => (writesCore_setRp p v fun h => by rw [h]; rfl).comp (writesCore_setWz _)
  | ldXyAtNn x nn =>
    exact runs_memRead16 (g := fun v t => (t.setXy x v).setWz (nn + 1#16)) nn rfl (fun _ => rfl)
      fun v => (writesCore_setXy x v).comp (writesCore_setWz _)
  | bitBAtHl b => exact runs_testByte_hl rfl b rfl fun _ => rfl
  | bitBAtXyd b | bitBAtXydZ b => exact runs_testXyd rfl b rfl fun _ => rfl
  -- reads and stores
  | incAtHl => exact runs_modifyByte_hl rfl rfl (modifies_incByte rfl) fun _ => rfl
  | decAtHl => exact runs_modifyByte_hl rfl rfl (modifies_decByte rfl) fun _ => rfl
  | resBAtHl b => exact runs_modifyByte_hl rfl rfl (modifies_resBit b) fun _ => rfl
  | setBAtHl b => exact runs_modifyByte_hl rfl rfl (modifies_setBit b) fun _ => rfl
  | incAtXyd x d =>
    exact runs_modifyByte_xyd (x := x) (d := d) (k := State.incByte)
      rfl rfl (modifies_incByte rfl) fun _ => rfl
  | decAtXyd x d =>
    exact runs_modifyByte_xyd (x := x) (d := d) (k := State.decByte)
      rfl rfl (modifies_decByte rfl) fun _ => rfl
  | resBAtXyd b x d =>
    exact runs_modifyByte_xyd (x := x) (d := d) (k := State.resBit b)
      rfl rfl (modifies_resBit b) fun _ => rfl
  | setBAtXyd b x d =>
    exact runs_modifyByte_xyd (x := x) (d := d) (k := State.setBit b)
      rfl rfl (modifies_setBit b) fun _ => rfl
  | resBAtXydR b x d r =>
    exact runs_modifyByteCopy_xyd (x := x) (d := d) (k := State.resBit b)
      rfl rfl (modifies_resBit b) fun _ => rfl
  | setBAtXydR b x d r =>
    exact runs_modifyByteCopy_xyd (x := x) (d := d) (k := State.setBit b)
      rfl rfl (modifies_setBit b) fun _ => rfl
  | rld =>
    exact runs_digit (fun t a => (a &&& 0xF0#8) ||| (t >>> 4)) (fun t a => (t <<< 4) ||| (a &&& 0x0F#8)) rfl rfl rfl
      exec_rld
  | rrd =>
    exact runs_digit (fun t a => (a &&& 0xF0#8) ||| (t &&& 0x0F#8)) (fun t a => (a <<< 4) ||| (t >>> 4)) rfl rfl rfl
      exec_rrd
  -- pops and exchanges with the top of the stack
  | popQq q =>
    exact runs_pop (g := fun v t => t.setRp2 q v) rfl rfl (fun _ => rfl) fun v =>
      writesCore_setRp2 q v fun h => by rw [h]; rfl
  | popXy x => exact runs_pop (g := fun v t => t.setXy x v) rfl rfl (fun _ => rfl) (writesCore_setXy x)
  | ret => exact runs_pop rfl rfl (fun _ => rfl) (writesCore_popPc rfl)
  | retCc cc => exact retCc_runs cc
  | retn | retnY | reti => exact runs_returnFromHandler rfl rfl rfl rfl fun _ => rfl
  | exAtSpHl =>
    exact runs_exAtSp (x := (·.hl)) (g := fun v t => (t.setHl v).setWz v) rfl rfl (fun _ => rfl)
      (fun v => (writesCore_setRp .hl v nofun).comp (writesCore_setWz v)) fun _ _ _ _ _ => rfl
  | exAtSpXy x =>
    exact runs_exAtSp (g := fun v t => (t.setXy x v).setWz v) rfl rfl (fun _ => rfl)
      (fun v => (writesCore_setXy x v).comp (writesCore_setWz v)) (readsCore_xy x)
  -- the block instructions
  | ldi => exact runs_blockLd .up (.regs _ writesCore_id) rfl rfl rfl fun _ => rfl
  | ldd => exact runs_blockLd .down (.regs _ writesCore_id) rfl rfl rfl fun _ => rfl
  | ldir =>
    exact runs_blockLd .up (.ite (fun s => s.bc != 0#16) (tail_repeatBlockWz rfl) (.regs _ writesCore_id)) rfl rfl rfl
      fun _ => rfl
  | lddr =>
    exact runs_blockLd .down (.ite (fun s => s.bc != 0#16) (tail_repeatBlockWz rfl) (.regs _ writesCore_id)) rfl rfl
      rfl fun _ => rfl
  | cpi => exact runs_blockCp .up (fun _ => .regs _ writesCore_id) rfl rfl fun _ => rfl
  | cpd => exact runs_blockCp .down (fun _ => .regs _ writesCore_id) rfl rfl fun _ => rfl
  | cpir =>
    exact runs_blockCp .up (fun r => .ite (fun s => s.bc != 0#16 && r != 0#8) (tail_repeatBlockWz rfl)
      (.regs _ writesCore_id)) rfl rfl fun _ => rfl
  | cpdr =>
    exact runs_blockCp .down (fun r => .ite (fun s => s.bc != 0#16 && r != 0#8) (tail_repeatBlockWz rfl)
      (.regs _ writesCore_id)) rfl rfl fun _ => rfl
  | ini => exact runs_blockIn .up (.regs _ writesCore_id) rfl rfl rfl fun _ => rfl
  | ind => exact runs_blockIn .down (.regs _ writesCore_id) rfl rfl rfl fun _ => rfl
  | inir => exact runs_blockIn .up (tail_repeatWhileB rfl) rfl rfl rfl fun _ => rfl
  | indr => exact runs_blockIn .down (tail_repeatWhileB rfl) rfl rfl rfl fun _ => rfl
  | outi => exact runs_blockOut .up (.regs _ writesCore_id) rfl rfl rfl fun _ => rfl
  | outd => exact runs_blockOut .down (.regs _ writesCore_id) rfl rfl rfl fun _ => rfl
  | otir => exact runs_blockOut .up (tail_repeatWhileB rfl) rfl rfl rfl fun _ => rfl
  | otdr => exact runs_blockOut .down (tail_repeatWhileB rfl) rfl rfl rfl fun _ => rfl
  -- ports
  | inAN n =>
    exact runs_portRead (p := fun s => join16 s.a n)
      (g := fun c v t => (t.setA v).setWz (join16 c.a n + 1#16)) rfl (fun _ => rfl)
      fun _ _ => (writesCore_setR8 .a fun _ _ _ _ _ => rfl).comp (writesCore_setWz _)
  | inRC r =>
    exact runs_inC (g := fun v t => t.setR8 r v) rfl rfl (fun _ => rfl) fun _ =>
      writesCore_setR8 r fun _ _ _ _ _ => rfl
  | inFC => exact runs_inC (g := fun _ t => t) rfl rfl (fun _ => rfl) fun _ => writesCore_id
  | outNA n =>
    exact runs_portWrite (p := fun s => join16 s.a n) (v := (·.a)) (w := fun s => join16 s.a (n + 1#8)) rfl
      fun _ => rfl
  | outCR r =>
    exact runs_portWrite (p := (·.bc)) (v := fun s => s.r8 r) (w := fun s => s.bc + 1#16) rfl (fun _ => rfl)
      (hv := fun _ _ _ _ _ => by cases r <;> rfl)
  | outC0 => exact runs_portWrite (p := (·.bc)) (v := fun _ => 0#8) (w := fun s => s.bc + 1#16) rfl fun _ => rfl

end Sys2Proof.Machine
end

section
/-! SUPPORT. What holds of every instruction because it holds of its parts. -/

namespace Sys2Proof.Machine

/-! ## One run -/

theorem WritesCore.eq_with {W : Effect → Bool} {g : State → State} (h : WritesCore W g) (s : State) :
    g s = { g s with mem := s.mem, req := s.req, inside := s.inside, trace := s.trace } :=
  h.core s s.mem s.req s.inside s.trace

/-- `R` holds of every part of a meaning that `W` allows, and of one after the other. -/
structure Respects (W : Effect → Bool) (R : State → State → Prop) : Prop where
  trans : ∀ {s t u}, R s t → R t u → R s u
  regs : ∀ {g}, WritesCore W g → ∀ s, R s (g s)
  tick : ∀ s n, R s (s.tick n)
  memRead : W .memRead = true → ∀ s a, R s (s.memRead a).2
  memWrite : W .memWrite = true → ∀ s a v, R s (s.memWrite a v)
  portRead : W .port = true → ∀ s p, R s (s.portRead p).2
  portWrite : W .port = true → ∀ s p v, R s (s.portWrite p v)

section

variable {W : Effect → Bool} {R : State → State → Prop} (hR : Respects W R)
include hR

theorem Tail.respects {f : State → State} (h : Tail W f) : ∀ s, R s (f s) := by
  induction h with
  | regs g h => exact hR.regs h
  | tick n => exact (hR.tick · n)
  | memWrite a v h => exact (hR.memWrite h · a v)
  | portWrite p v h => exact (hR.portWrite h · p v)
  | portRead p _ h ih => exact fun s => hR.trans (hR.portRead h s p) (ih _ _)
  | seq _ _ ihf ihg => exact fun s => hR.trans (ihf s) (ihg _)
  | ite c _ _ _ ihf ihg =>
    intro s
    show R s (if c s = true then _ else _)
    split
    · exact ihf s
    · exact ihg s

theorem Meaning.respects {f : State → State} (h : Meaning W f) : ∀ s, R s (f s) := by
  induction h with
  | tail hf => exact Tail.respects hR hf
  | tick n _ ih => exact fun s => hR.trans (hR.tick s n) (ih _)
  | regs g _ h ih => exact fun s => hR.trans (hR.regs h s) (ih _)
  | read a hk h => exact fun s => hR.trans (hR.memRead h s a) (Tail.respects hR (hk _) _)
  | read16 a hk h =>
    exact fun s => hR.trans (hR.trans (hR.memRead h s a) (hR.memRead h _ (a + 1#16)))
      (Tail.respects hR (hk _) _)

end

/-- Every instruction answers a next state (00_scope.md section 4). -/
theorem exec_next (i : Instr) (s : State) : ∃ t, exec i s = .next t := by
  obtain ⟨k, _, he, _⟩ := exec_runs i
  exact ⟨_, he s⟩

theorem exec_respects {i : Instr} {R : State → State → Prop} (hR : Respects (allowed i) R) {s t : State}
    (h : exec i s = .next t) : R s t := by
  obtain ⟨k, hk, he, _⟩ := exec_runs i
  rw [he] at h
  cases h
  exact (hk s).respects hR s

/-! ## The memory list stays canonical -/

theorem respects_canonical (W : Effect → Bool) : Respects W fun s t => s.Canonical → t.Canonical where
  trans h h' := h' ∘ h
  regs h s := State.canonical_congr (by rw [h.eq_with s])
  tick s n := s.tick_canonical n
  memRead _ s a := s.memRead_canonical a
  memWrite _ s a v := s.memWrite_canonical a v
  portRead _ s p := s.portRead_canonical p
  portWrite _ s p v := s.portWrite_canonical p v

theorem exec_canonical {i : Instr} {s t : State} (h : exec i s = .next t) (hc : s.Canonical) : t.Canonical :=
  exec_respects (respects_canonical _) h hc

/-! ## Registers an instruction may not write, and the request bits -/

theorem SameCore.keeps {W : Effect → Bool} {s t : State} (h : SameCore t s) : Keeps W s t := by
  intro e _
  rw [SameCore] at h
  rw [← h]
  cases e <;> rfl

theorem State.portAnswer_keeps {W : Effect → Bool} (s : State) : Keeps W s s.portAnswer.2 := by
  intro e _
  cases e <;> simp [Effect.view]

theorem respects_keeps (W : Effect → Bool) : Respects W fun s t => EnvStep s t ∧ Keeps W s t where
  trans h h' := ⟨h.1.trans h'.1, h.2.trans h'.2⟩
  regs h s := ⟨.of_eq (by rw [h.eq_with s]) (by rw [h.eq_with s]), h.keeps s⟩
  tick s n := ⟨s.tick_envStep n, SameCore.keeps (by simp [sameCore_iff])⟩
  memRead _ s a := ⟨s.memRead_envStep a, (s.memRead_core a).keeps⟩
  memWrite _ s a v := ⟨s.memWrite_envStep a v, (s.memWrite_core a v).keeps⟩
  portRead _ s p := ⟨s.portRead_envStep p, s.portAnswer_keeps.trans (s.portRead_core p).keeps⟩
  portWrite _ s p v := ⟨s.portWrite_envStep p v, (s.portWrite_core p v).keeps⟩

theorem exec_envStep {i : Instr} {s t : State} (h : exec i s = .next t) : EnvStep s t :=
  (exec_respects (respects_keeps _) h).1

theorem exec_keeps {i : Instr} {s t : State} (h : exec i s = .next t) : Keeps (allowed i) s t :=
  (exec_respects (respects_keeps _) h).2

section

variable {W : Effect → Bool} {s t : State} (h : Keeps W s t)
include h

theorem Keeps.f (hW : W .f = false) : t.f = s.f := (congrArg State.f (h .f hW) :)
theorem Keeps.pc (hW : W .pc = false) : t.pc = s.pc := (congrArg State.pc (h .pc hW) :)
theorem Keeps.sp (hW : W .sp = false) : t.sp = s.sp := (congrArg State.sp (h .sp hW) :)
theorem Keeps.iff1 (hW : W .iff1 = false) : t.iff1 = s.iff1 := (congrArg State.iff1 (h .iff1 hW) :)
theorem Keeps.iff2 (hW : W .iff2 = false) : t.iff2 = s.iff2 := (congrArg State.iff2 (h .iff2 hW) :)
theorem Keeps.im (hW : W .im = false) : t.im = s.im := (congrArg State.im (h .im hW) :)
theorem Keeps.i (hW : W .i = false) : t.i = s.i := (congrArg State.i (h .i hW) :)
theorem Keeps.r (hW : W .r = false) : t.r = s.r := (congrArg State.r (h .r hW) :)
theorem Keeps.af' (hW : W .af' = false) : t.af' = s.af' := (congrArg State.af' (h .af' hW) :)
theorem Keeps.shadow (hW : W .shadow = false) : (t.bc', t.de', t.hl') = (s.bc', s.de', s.hl') :=
 (congrArg (fun v : State => (v.bc', v.de', v.hl')) (h .shadow hW) :)
theorem Keeps.irqDelay (hW : W .irqDelay = false) : t.irqDelay = s.irqDelay := (congrArg State.irqDelay (h .irqDelay hW) :)
theorem Keeps.halted (hW : W .halted = false) : t.halted = s.halted := (congrArg State.halted (h .halted hW) :)
theorem Keeps.env (hW : W .env = false) : t.env = s.env := (congrArg State.env (h .env hW) :)

end

/-! What `allowed` says, for the effects of a few instructions. -/

section

variable {i : Instr}

theorem eq_of_allowed_iff1 (h : allowed i .iff1 = true) :
    i = .di ∨ i = .ei ∨ i = .retn ∨ i = .reti ∨ ∃ y, i = .retnY y := by
  simp only [allowed] at h
  split at h <;> simp_all

theorem eq_of_allowed_iff2 (h : allowed i .iff2 = true) : i = .di ∨ i = .ei := by
  simp only [allowed] at h
  split at h <;> simp_all

theorem eq_of_allowed_im (h : allowed i .im = true) : i = .im0 ∨ i = .im1 ∨ i = .im2 ∨ ∃ y, i = .imY y := by
  simp only [allowed] at h
  split at h <;> simp_all

theorem eq_of_allowed_i (h : allowed i .i = true) : i = .ldIA := by
  simp only [allowed] at h
  split at h <;> simp_all

theorem eq_of_allowed_r (h : allowed i .r = true) : i = .ldRA := by
  simp only [allowed] at h
  split at h <;> simp_all

theorem eq_of_allowed_af' (h : allowed i .af' = true) : i = .exAfAf := by
  simp only [allowed] at h
  split at h <;> simp_all

theorem eq_of_allowed_shadow (h : allowed i .shadow = true) : i = .exx := by
  simp only [allowed] at h
  split at h <;> simp_all

theorem eq_of_allowed_irqDelay (h : allowed i .irqDelay = true) : i = .ei := by
  simp only [allowed] at h
  split at h <;> simp_all

theorem eq_of_allowed_halted (h : allowed i .halted = true) : i = .halt := by
  simp only [allowed] at h
  split at h <;> simp_all

theorem of_allowed_port (h : allowed i .port = true) :
    i.portOnly = true ∨ i = .ini ∨ i = .ind ∨ i = .inir ∨ i = .indr := by
  simp only [allowed, Bool.or_eq_true] at h
  refine h.imp_right fun h => ?_
  split at h <;> simp_all

/-- An effect only some instructions are allowed, and of which `i` is none. -/
theorem not_allowed {e : Effect} {p : Prop} (hp : allowed i e = true → p) (h : ¬ p) : allowed i e = false := by
  simpa using mt hp h

end

/-- Settles O14: every instruction completes; its request bits are the environment's, by induction over its
parts. -/
theorem requestsUntouched : Obligations.RequestsUntouched := by
  unfold Obligations.RequestsUntouched
  intro i s
  obtain ⟨t, ht⟩ := exec_next i s
  have hk := exec_keeps ht
  exact ⟨t, ht, exec_envStep ht, hk.env rfl, fun h => hk.irqDelay (not_allowed eq_of_allowed_irqDelay h),
    fun h => hk.halted (not_allowed eq_of_allowed_halted h)⟩

/-- Settles O15: a register outside `allowed` is kept. -/
theorem registerWriters : Obligations.RegisterWriters := by
  unfold Obligations.RegisterWriters
  refine ⟨fun i s t ht => ?control, fun i s t ht => ⟨(exec_keeps ht).pc, (exec_keeps ht).sp⟩⟩
  have hk := exec_keeps ht
  have writer {e : Effect} {p q : Prop} (he : allowed i e = true → p) (hkeep : allowed i e = false → q) (hq : ¬ q) :
      p :=
    Classical.byContradiction fun hp => hq (hkeep (not_allowed he hp))
  exact ⟨writer eq_of_allowed_iff1 hk.iff1, writer eq_of_allowed_iff2 hk.iff2, writer eq_of_allowed_im hk.im,
    writer eq_of_allowed_i hk.i, writer eq_of_allowed_r hk.r, writer eq_of_allowed_af' hk.af',
    writer eq_of_allowed_shadow hk.shadow⟩

/-- Settles O16: F outside the list of flag writers is kept. -/
theorem flagWriters : Obligations.FlagWriters := by
  unfold Obligations.FlagWriters
  exact fun i s t hf ht => (exec_keeps ht).f hf

/-! ## Bus operations -/

/-- An operation of a kind that `W` allows. -/
def BusOp.within (W : Effect → Bool) : BusOp → Bool
  | .memRead _ _ => W .memRead
  | .memWrite _ _ => W .memWrite
  | .portRead _ _ | .portWrite _ _ => W .port
  | _ => false

/-- From `s` to `t` only operations that `W` allows were added to the record, and in a quiet environment memory
changed only if it allows a store. -/
def Issues (W : Effect → Bool) (s t : State) : Prop :=
  (∃ ops, t.bus = ops ++ s.bus ∧ ∀ o ∈ ops, BusOp.within W o = true) ∧
    (s.Quiet → t.Quiet ∧ (W .memWrite = false → t.mem = s.mem))

theorem Issues.none {W : Effect → Bool} {s t : State} (hb : t.bus = s.bus) (hq : s.Quiet → t.Quiet ∧ t.mem = s.mem) :
    Issues W s t :=
  ⟨⟨[], hb, nofun⟩, fun h => ⟨(hq h).1, fun _ => (hq h).2⟩⟩

theorem Issues.one {W : Effect → Bool} {s t : State} {o : BusOp} (hb : t.bus = o :: s.bus) (ho : BusOp.within W o = true)
    (hq : s.Quiet → t.Quiet ∧ (W .memWrite = false → t.mem = s.mem)) : Issues W s t :=
  ⟨⟨[o], hb, by simpa using ho⟩, hq⟩

theorem Issues.trans {W : Effect → Bool} {s t u : State} (h : Issues W s t) (h' : Issues W t u) : Issues W s u := by
  obtain ⟨⟨ops, hb, ho⟩, hq⟩ := h
  obtain ⟨⟨ops', hb', ho'⟩, hq'⟩ := h'
  refine ⟨⟨ops' ++ ops, by rw [hb', hb, List.append_assoc], fun o h => ?_⟩, fun hs => ?_⟩
  · rcases List.mem_append.mp h with h | h
    · exact ho' o h
    · exact ho o h
  · obtain ⟨ht, hm⟩ := hq hs
    obtain ⟨hu, hm'⟩ := hq' ht
    exact ⟨hu, fun hW => (hm' hW).trans (hm hW)⟩

theorem respects_issues (W : Effect → Bool) : Respects W (Issues W) where
  trans := Issues.trans
  regs {g} h s := by
    refine .none (by rw [h.eq_with s]; rfl) fun hq => ⟨?_, by rw [h.eq_with s]⟩
    rw [h.eq_with s]
    exact hq
  tick s n := .none (by simp) fun hq => by
    rw [State.tick_quiet s n hq]
    exact ⟨hq, rfl⟩
  memRead hW s a := .one (s.memRead_bus a) hW fun hq => by
    rw [State.memRead_quiet s a hq]
    exact ⟨hq, fun _ => rfl⟩
  memWrite hW s a v := .one (s.memWrite_bus a v) hW fun hq => by
    rw [State.memWrite_quiet s a v hq, hW]
    exact ⟨hq, nofun⟩
  portRead hW s p := .one (s.portRead_bus p) hW fun hq => by
    rw [State.portRead_quiet s p hq]
    exact ⟨(State.portAnswer_inside s).trans hq, fun _ => State.portAnswer_mem s⟩
  portWrite hW s p v := .one (s.portWrite_bus p v) hW fun hq => by
    rw [State.portWrite_quiet s p v hq]
    exact ⟨hq, fun _ => rfl⟩

theorem exec_issues {i : Instr} {s t : State} (h : exec i s = .next t) : Issues (allowed i) s t :=
  exec_respects (respects_issues _) h

/-- Settles O17: an operation on the record is of an allowed kind. -/
theorem busUsers : Obligations.BusUsers := by
  unfold Obligations.BusUsers
  intro i s t ht
  obtain ⟨⟨ops, hb, ho⟩, hq⟩ := exec_issues ht
  have excluded {o : BusOp} (h : BusOp.within (allowed i) o = false) : o ∉ ops := fun hm =>
    absurd (ho o hm) (by simp [h])
  refine ⟨ops, hb, fun hw => ⟨fun hs => (hq hs).2 hw, fun a v => excluded hw⟩, fun hp h1 h2 h3 h4 => ?port,
    fun hw hr hp => ?none⟩
  case port =>
    have hport : allowed i .port = false := not_allowed of_allowed_port (by simp [hp, h1, h2, h3, h4])
    exact fun a v => ⟨excluded hport, excluded hport⟩
  case none =>
    have hread : allowed i .memRead = false := by simp [allowed, hw, hr, hp]
    have hport : allowed i .port = false := by
      refine not_allowed of_allowed_port ?_
      rintro (h | rfl | rfl | rfl | rfl)
      · simp [hp] at h
      all_goals exact Bool.noConfusion hw
    refine List.eq_nil_iff_forall_not_mem.mpr fun o => excluded ?_
    cases o with
    | memRead => exact hread
    | memWrite => exact hw
    | portRead | portWrite => exact hport
    | tick | pcQuery | debugNmiActivated => rfl

end Sys2Proof.Machine
end

section
/-! SUPPORT. The step: what it does by case (60_exceptions.md R420), the halted core, and the memory list. -/

namespace Sys2Proof.Machine

section

variable {s : State}

theorem step_of_halted (h : s.arrive.halted = true) : step s = .next s.arrive.idle.boundary := by
  simp [step, (State.arrive_halted s).symm.trans h]

theorem step_of_error {err : DecodeError} (h : s.arrive.halted = false)
    (hd : decode (Window.ofList s.arrive.fetch.1) = .error err) :
    step s = .fault (.decodeFault s.arrive.pc err.bytes s.arrive.fetch.2.trace) := by
  simp [step, (State.arrive_halted s).symm.trans h, hd]

theorem step_of_ok {k : Decoded} {t : State} (h : s.arrive.halted = false)
    (hd : decode (Window.ofList s.arrive.fetch.1) = .ok k) (he : exec k.instr s.arrive.fetch.2 = .next t) :
    step s = .next t.boundary := by
  simp [step, (State.arrive_halted s).symm.trans h, hd, he]

end

/-- Settles O9: `exec` always answers a next state. -/
theorem stepRunsDecoded : Obligations.StepRunsDecoded := by
  unfold Obligations.StepRunsDecoded
  intro s k hh hd
  obtain ⟨t, ht⟩ := exec_next k.instr s.arrive.fetch.2
  exact ⟨t, ht, step_of_ok hh hd ht⟩

/-- What a step that answers a next state did: an idle step, or a fetch and an instruction; then the boundary. -/
theorem step_cases {s t : State} (h : step s = .next t) :
    (s.arrive.halted = true ∧ t = s.arrive.idle.boundary) ∨
      s.arrive.halted = false ∧ ∃ k u, decode (Window.ofList s.arrive.fetch.1) = .ok k ∧
        exec k.instr s.arrive.fetch.2 = .next u ∧ t = u.boundary := by
  by_cases hh : s.arrive.halted = true
  · rw [step_of_halted hh] at h
    exact .inl ⟨hh, by simpa using h.symm⟩
  · rw [Bool.not_eq_true] at hh
    cases hd : decode (Window.ofList s.arrive.fetch.1) with
    | error err => simp [step_of_error hh hd] at h
    | ok k =>
      obtain ⟨u, hu⟩ := exec_next k.instr s.arrive.fetch.2
      rw [step_of_ok hh hd hu] at h
      exact .inr ⟨hh, k, u, rfl, hu, by simpa using h.symm⟩

theorem State.idle_canonical {s : State} (h : s.Canonical) : s.idle.Canonical :=
  State.tick_canonical s.incR 4 h

/-- Settles O3: each part of a step keeps the canonical form; `exec` by induction over its parts. -/
theorem stepKeepsCanonical : Obligations.StepKeepsCanonical := by
  unfold Obligations.StepKeepsCanonical
  intro s t hs hstep
  have harrive := s.arrive_canonical hs
  obtain ⟨-, rfl⟩ | ⟨-, k, u, -, hu, rfl⟩ := step_cases hstep
  · exact State.boundary_canonical _ (State.idle_canonical harrive)
  · exact State.boundary_canonical _ (exec_canonical hu (State.fetch_canonical _ harrive))

/-- Settles O12: the idle step counts R and charges. -/
theorem idleStep : Obligations.IdleStep := by
  unfold Obligations.IdleStep
  intro s hh
  have hcharge : EnvStep s.arrive s.arrive.incR := .of_eq rfl rfl
  refine ⟨s.arrive.idle, step_of_halted hh, ?core, hcharge.trans (State.tick_envStep _ 4), State.bus_tick _ 4,
    fun hq => ?mem⟩
  case core => simp [sameCore_iff, State.idle, State.incR]
  case mem =>
    have hq' : s.arrive.incR.inside = [] := (State.arrive_inside s).trans hq
    rw [State.idle, State.tick_quiet _ 4 hq']
    rfl

end Sys2Proof.Machine
end

section
/-! SUPPORT. Two runs of one meaning: in any environment, and in a quiet one whose memory holds what the environment
answers. -/

namespace Sys2Proof.Machine

/-! ## States that differ in what the environment reaches -/

theorem SameCore.symm {s t : State} (h : SameCore s t) : SameCore t s := by
  rw [SameCore] at h ⊢
  rw [← h]

theorem SameCore.trans {s t u : State} (h : SameCore s t) (h' : SameCore t u) : SameCore s u := by
  rw [SameCore] at h h' ⊢
  rw [← h', ← h]

theorem State.tick_core (s : State) (n : Nat) : SameCore (s.tick n) s := by
  simp [sameCore_iff]

/-- `u` is `s` in a quiet environment, with some other memory: same registers, same operations issued. -/
structure Shadows (s u : State) : Prop where
  core : SameCore s u
  bus : s.bus = u.bus
  quiet : u.inside = []

/-- An operation of the bus on both sides, with the same entry on the record. -/
theorem Shadows.of_core {s u s' u' : State} (h : Shadows s u) (hs : SameCore s' s) (hu : SameCore u' u)
    (hb : s'.bus = u'.bus) (hq : u'.inside = []) : Shadows s' u' :=
  ⟨(hs.trans h.core).trans hu.symm, hb, hq⟩

section

variable {s u : State} (h : Shadows s u)
include h

theorem Shadows.tick (n : Nat) : Shadows (s.tick n) (u.tick n) :=
  h.of_core (s.tick_core n) (u.tick_core n) (by simpa using h.bus)
    (by rw [State.tick_quiet u n h.quiet]; exact h.quiet)

theorem Shadows.memWrite (a : Word) (v : Byte) : Shadows (s.memWrite a v) (u.memWrite a v) :=
  h.of_core (s.memWrite_core a v) (u.memWrite_core a v) (by simpa using h.bus)
    (by rw [State.memWrite_quiet u a v h.quiet]; exact h.quiet)

theorem Shadows.portWrite (p : Word) (v : Byte) : Shadows (s.portWrite p v) (u.portWrite p v) :=
  h.of_core (s.portWrite_core p v) (u.portWrite_core p v) (by simpa using h.bus)
    (by rw [State.portWrite_quiet u p v h.quiet]; exact h.quiet)

theorem Shadows.eq_with : u = { s with mem := u.mem, req := u.req, inside := u.inside, trace := u.trace } :=
  Eq.symm h.core

theorem Shadows.reads {α : Type} {c : State → α} (hc : ReadsCore c) : c s = c u := by
  rw [h.eq_with]
  exact (hc s u.mem u.req u.inside u.trace).symm

theorem Shadows.portAnswer : s.portAnswer.1 = u.portAnswer.1 ∧ SameCore s.portAnswer.2 u.portAnswer.2 := by
  have hi := sameCore_iff.mp h.core
  have hp : s.portIn = u.portIn := by tauto
  have hf : s.freeCount = u.freeCount := by tauto
  cases hs : s.portIn with
  | nil =>
    rw [s.portAnswer_free hs, u.portAnswer_free (hp ▸ hs), hf]
    refine ⟨rfl, ?_⟩
    have hcore := h.core
    rw [SameCore] at hcore ⊢
    exact congrArg (State.setFreeCount · (u.freeCount + 1)) hcore
  | cons v rest =>
    rw [s.portAnswer_ready hs, u.portAnswer_ready (hp ▸ hs)]
    refine ⟨rfl, ?_⟩
    have hcore := h.core
    rw [SameCore] at hcore ⊢
    exact congrArg (State.setPortIn · rest) hcore

theorem Shadows.portRead (p : Word) :
    (s.portRead p).1 = (u.portRead p).1 ∧ Shadows (s.portRead p).2 (u.portRead p).2 := by
  obtain ⟨hv, hcore⟩ := h.portAnswer
  refine ⟨by simpa using hv, ((s.portRead_core p).trans hcore).trans (u.portRead_core p).symm, ?bus, ?quiet⟩
  case bus => simp [hv, h.bus]
  case quiet =>
    rw [State.portRead_quiet u p h.quiet]
    exact (State.portAnswer_inside u).trans h.quiet

theorem Shadows.regs {W : Effect → Bool} {g : State → State} (hg : WritesCore W g) : Shadows (g s) (g u) where
  core := by
    rw [SameCore, hg.eq_with u, ← hg.core, ← h.eq_with, ← hg.eq_with]
  bus := by
    rw [hg.eq_with s, hg.eq_with u]
    exact h.bus
  quiet := by
    rw [hg.eq_with u]
    exact h.quiet

/-- A read on both sides, of a byte of memory that is what the environment answers on the first. -/
theorem Shadows.memRead {a : Word} (hv : u.peek a = (s.memRead a).1) :
    (u.memRead a).1 = (s.memRead a).1 ∧ Shadows (s.memRead a).2 (u.memRead a).2 := by
  have hval : (u.memRead a).1 = (s.memRead a).1 := by rw [State.memRead_quiet u a h.quiet, ← hv]
  refine ⟨hval, h.of_core (s.memRead_core a) (u.memRead_core a) ?bus ?quiet⟩
  case bus => rw [State.memRead_bus, State.memRead_bus, hval, h.bus]
  case quiet =>
    rw [State.memRead_quiet u a h.quiet]
    exact h.quiet

end

/-! ## A meaning in both environments -/

theorem Tail.shadows {W : Effect → Bool} {f : State → State} (hf : Tail W f) :
    ∀ {s u : State}, Shadows s u → Shadows (f s) (f u) := by
  induction hf with
  | regs g hg => exact fun h => h.regs hg
  | tick n => exact fun h => h.tick n
  | memWrite a v => exact fun h => h.memWrite a v
  | portWrite p v => exact fun h => h.portWrite p v
  | portRead p _ _ ih =>
    intro s u h
    obtain ⟨hv, h'⟩ := h.portRead p
    simpa only [hv] using ih _ h'
  | seq _ _ ihf ihg => exact fun h => ihg (ihf h)
  | ite c _ _ hc ihf ihg =>
    intro s u h
    simp only [h.reads hc]
    split
    · exact ihf h
    · exact ihg h

/-- The memory that holds what two reads were answered. -/
def answers (a : Word) (v : Byte) (b : Word) (w : Byte) : Memory :=
  (Memory.write [] a.toNat v).write b.toNat w

/-- For what the environment answers there is a memory that answers the same. -/
theorem Meaning.shadows {W : Effect → Bool} {f : State → State} (hf : Meaning W f) :
    ∀ s, ∃ m : Memory, m.wf = true ∧ ∀ u, Shadows s u → u.mem = m → Shadows (f s) (f u) := by
  induction hf with
  | tail hf => exact fun s => ⟨[], rfl, fun u h _ => hf.shadows h⟩
  | tick n _ ih =>
    intro s
    obtain ⟨m, hm, hsim⟩ := ih (s.tick n)
    exact ⟨m, hm, fun u h hu => hsim _ (h.tick n) (by rw [State.tick_quiet u n h.quiet]; exact hu)⟩
  | regs g _ hg ih =>
    intro s
    obtain ⟨m, hm, hsim⟩ := ih (g s)
    exact ⟨m, hm, fun u h hu => hsim _ (h.regs hg) (by rw [hg.eq_with u]; exact hu)⟩
  | read a hk =>
    intro s
    have hm : (Memory.write [] a.toNat (s.memRead a).1).wf = true := Memory.write_wf _ _ rfl
    refine ⟨_, hm, fun u h hu => ?_⟩
    have hpeek : u.peek a = (s.memRead a).1 := by
      rw [State.peek, hu, Memory.read_write rfl]
      simp
    obtain ⟨hv, h'⟩ := h.memRead hpeek
    simpa only [hv] using (hk _).shadows h'
  | read16 a hk =>
    intro s
    have hm : (answers a (s.memRead a).1 (a + 1#16) ((s.memRead a).2.memRead (a + 1#16)).1).wf = true :=
      Memory.write_wf _ _ (Memory.write_wf _ _ rfl)
    refine ⟨_, hm, fun u h hu => ?_⟩
    have hlo : u.peek a = (s.memRead a).1 := by
      have hne : a.toNat ≠ (a + 1#16).toNat := fun e => addr_succ_ne a (BitVec.eq_of_toNat_eq e).symm
      rw [State.peek, hu, answers, Memory.read_write (Memory.write_wf _ _ rfl), Memory.read_write rfl,
        if_neg hne, if_pos rfl]
    obtain ⟨hv, h1⟩ := h.memRead hlo
    have hhi : (u.memRead a).2.peek (a + 1#16) = ((s.memRead a).2.memRead (a + 1#16)).1 := by
      rw [State.memRead_quiet u a h.quiet]
      show u.peek (a + 1#16) = _
      rw [State.peek, hu, answers, Memory.read_write (Memory.write_wf _ _ rfl)]
      simp
    obtain ⟨hv', h2⟩ := h1.memRead hhi
    have hword : (s.memRead16 a).1 = (u.memRead16 a).1 := by
      simp only [State.memRead16, hv, hv']
    have h3 : Shadows (s.memRead16 a).2 (u.memRead16 a).2 := h2
    simpa only [hword] using (hk _).shadows h3

/-- An instruction in any environment, and in a quiet one with the memory that answers the same. -/
theorem exec_shadows {i : Instr} {s t : State} (h : exec i s = .next t) :
    ∃ m : Memory, m.wf = true ∧ ∃ u, exec i { s with mem := m, inside := [] } = .next u ∧ Shadows t u := by
  obtain ⟨k, hk, he, hfrozen⟩ := exec_runs i
  rw [he] at h
  cases h
  obtain ⟨m, hm, hsim⟩ := (hk s).shadows s
  refine ⟨m, hm, _, he _, ?_⟩
  have hstart : Shadows s { s with mem := m, inside := [] } := ⟨rfl, rfl, rfl⟩
  rw [hfrozen s m []]
  exact hsim _ hstart rfl

/-! ## Entering a handler -/

/-- What a service does before it finds the handler's address, SP and PC given. -/
@[irreducible] def State.enterAt (s : State) (iff1 iff2 : Bool) (charge : Nat) (sp pc : Word) : State :=
  ((((s.setHalted false).incR.setIff1 iff1).setIff2 iff2).tick charge).pushAt sp pc

theorem State.enterHandler_eq (s : State) (b b' : Bool) (n : Nat) (target : State → Word × State) :
    s.enterHandler b b' n target =
      ((target (s.enterAt b b' n s.sp s.pc)).2.setPc (target (s.enterAt b b' n s.sp s.pc)).1).setWz
        (target (s.enterAt b b' n s.sp s.pc)).1 := by
  simp [State.enterHandler, State.enterAt, State.push16_eq_pushAt]

/-- The effects of a service. -/
def anyEffect : Effect → Bool := fun _ => true

theorem keeps_anyEffect (s t : State) : Keeps anyEffect s t := fun _ h => nomatch h

theorem tail_enterAt (b b' : Bool) (n : Nat) (sp pc : Word) : Tail anyEffect (State.enterAt · b b' n sp pc) := by
  unfold State.enterAt
  exact .seq (.seq (.regs (fun t => (((t.setHalted false).incR.setIff1 b).setIff2 b'))
    ⟨fun _ _ _ _ _ => rfl, fun _ => keeps_anyEffect _ _⟩) (.tick n)) (tail_pushAt sp pc rfl rfl)

/-- A handler whose address is fixed. -/
theorem tail_enterFixed (b b' : Bool) (n : Nat) (sp pc v : Word) :
    Tail anyEffect fun t => ((t.enterAt b b' n sp pc).setPc v).setWz v :=
  .seq (tail_enterAt b b' n sp pc) (.regs _ (writesCore_popPc rfl v))

theorem Tail.envStep {W : Effect → Bool} {f : State → State} (hf : Tail W f) (s : State) : EnvStep s (f s) :=
  (hf.respects (respects_keeps W) s).1

theorem EnvStep.quiet {s t : State} (h : EnvStep s t) (hq : s.inside = []) : t.req = s.req := by
  obtain ⟨used, hi, hr⟩ := h
  rw [hq] at hi
  obtain ⟨rfl, -⟩ := List.append_eq_nil_iff.mp hi.symm
  exact hr

/-- The request bits after some actions depend on those before and on the actions only. -/
theorem EnvStep.congr {s s' t : State} (h : EnvStep s t) (hi : s'.inside = s.inside) (hr : s'.req = s.req) :
    EnvStep s' t := by
  obtain ⟨used, hu, hreq⟩ := h
  exact ⟨used, by rw [hi, hu], by rw [hreq]; exact State.acts_req_congr _ hr.symm⟩

@[simp] theorem State.enterAt_bus (s : State) (b b' : Bool) (n : Nat) (sp pc : Word) :
    (s.enterAt b b' n sp pc).bus =
      .memWrite (sp - 2#16) (lo8 pc) :: .memWrite (sp - 1#16) (hi8 pc) :: s.bus := by
  simp [State.enterAt, State.pushAt]

@[simp] theorem State.enterAt_i (s : State) (b b' : Bool) (n : Nat) (sp pc : Word) :
    (s.enterAt b b' n sp pc).i = s.i := by
  simp [State.enterAt, State.pushAt]

@[simp] theorem State.enterAt_im (s : State) (b b' : Bool) (n : Nat) (sp pc : Word) :
    (s.enterAt b b' n sp pc).im = s.im := by
  simp [State.enterAt, State.pushAt]

/-! ## The boundary by case (60_exceptions.md R421) -/

section

variable {s : State}

/-- The boundary services a maskable request, if no other is pending. -/
def State.acceptsIrq (s : State) : Prop := (s.req.irqA = true ∨ s.req.irqB = true) ∧ s.iff1 = true ∧ s.irqDelay = false

theorem State.boundary_of_reset (h : s.req.reset = true) : s.boundary = (s.setIrqDelay false).serviceReset := by
  simp [State.boundary, h]

theorem State.boundary_of_nmi (hr : s.req.reset = false) (h : s.req.nmiDebug = true ∨ s.req.nmiOther = true) :
    s.boundary = (s.setIrqDelay false).serviceNmi := by
  have hn : (s.req.nmiDebug || s.req.nmiOther) = true := by simpa using h
  simp only [State.boundary, State.setIrqDelay_req, hr, hn]
  rfl

theorem State.boundary_of_irq (hr : s.req.reset = false) (hd : s.req.nmiDebug = false) (ho : s.req.nmiOther = false)
    (h : s.acceptsIrq) : s.boundary = (s.setIrqDelay false).serviceIrq := by
  obtain ⟨hreq, hi, hdelay⟩ := h
  have hirq : (s.req.irqA || s.req.irqB) = true := by simpa using hreq
  simp only [State.boundary, State.setIrqDelay_req, State.setIrqDelay_iff1, hr, hd, ho, hi, hdelay, hirq]
  rfl

theorem State.boundary_of_none (hr : s.req.reset = false) (hd : s.req.nmiDebug = false) (ho : s.req.nmiOther = false)
    (h : ¬ s.acceptsIrq) : s.boundary = s.setIrqDelay false := by
  have hirq : ((s.req.irqA || s.req.irqB) && s.iff1 && !s.irqDelay) = false := by
    simpa [State.acceptsIrq, and_assoc] using h
  simp only [State.boundary, State.setIrqDelay_req, State.setIrqDelay_iff1, hr, hd, ho, hirq]
  rfl

/-- Maskable service, SP and PC given. -/
theorem State.serviceIrq_eq (s : State) :
    s.serviceIrq =
      (((s.enterAt false false 7 s.sp s.pc).irqTarget.2.setPc (s.enterAt false false 7 s.sp s.pc).irqTarget.1).setWz
        (s.enterAt false false 7 s.sp s.pc).irqTarget.1) :=
  State.enterHandler_eq s false false 7 State.irqTarget

theorem State.serviceIrq_fixed (h : s.im ≠ .im2) :
    s.serviceIrq = (((s.enterAt false false 7 s.sp s.pc).setPc Config.irqVector).setWz Config.irqVector) := by
  have him : (s.enterAt false false 7 s.sp s.pc).im = s.im := by simp
  have htarget : (s.enterAt false false 7 s.sp s.pc).irqTarget =
      (Config.irqVector, s.enterAt false false 7 s.sp s.pc) := by
    rw [State.irqTarget, him]
    cases hs : s.im
    · rfl
    · rfl
    · exact absurd hs h
  rw [State.serviceIrq_eq, htarget]

/-- The state a mode 2 service reads its vector in. -/
@[irreducible] def State.beforeVector (s : State) : State := (s.setIrqDelay false).enterAt false false 7 s.sp s.pc

theorem State.serviceIrq_vectored (h : s.im = .im2) :
    (s.setIrqDelay false).serviceIrq =
      ((s.beforeVector.memRead16 (join16 s.i Config.im2Low)).2.setPc
        (s.beforeVector.memRead16 (join16 s.i Config.im2Low)).1).setWz
        (s.beforeVector.memRead16 (join16 s.i Config.im2Low)).1 := by
  have him : s.beforeVector.im = .im2 := by simpa [State.beforeVector] using h
  have hi : s.beforeVector.i = s.i := by simp [State.beforeVector]
  have htarget : s.beforeVector.irqTarget = s.beforeVector.memRead16 (join16 s.i Config.im2Low) := by
    rw [State.irqTarget, him, ← hi]
    rfl
  rw [← htarget, State.beforeVector]
  exact State.serviceIrq_eq _

end

/-! ## The boundary in both environments -/

/-- The request bits at a boundary, once the core itself has cleared those it clears (60_exceptions.md R404, R413). -/
def State.clearedReq (s : State) : Req :=
  if s.req.reset then Req.empty
  else if s.req.nmiDebug || s.req.nmiOther then { s.req with nmiDebug := false, nmiOther := false }
  else s.req

/-- The boundary accepts a maskable request in mode 2. -/
def State.vectored (s : State) : Prop :=
  s.req.reset = false ∧ s.req.nmiDebug = false ∧ s.req.nmiOther = false ∧ (s.req.irqA = true ∨ s.req.irqB = true) ∧
    s.iff1 = true ∧ s.irqDelay = false ∧ s.im = .im2

/-- Events added to the record. -/
def State.addEvents (s : State) (ops : List BusOp) : State := { s with trace := ops ++ s.trace }

theorem SameCore.addEvents {s t : State} (h : SameCore s t) (ops : List BusOp) :
    SameCore (s.addEvents ops) (t.addEvents ops) := by
  rw [SameCore] at h ⊢
  exact congrArg (State.addEvents · ops) h

theorem State.bus_addEvents (s : State) (ops : List BusOp) :
    (s.addEvents ops).bus = ops.filter BusOp.isOp ++ s.bus :=
  List.filter_append ops s.trace

theorem SameCore.regs {W : Effect → Bool} {g : State → State} (hg : WritesCore W g) {s t : State} (h : SameCore s t) :
    SameCore (g s) (g t) := by
  have hts : t = { s with mem := t.mem, req := t.req, inside := t.inside, trace := t.trace } := Eq.symm h
  rw [SameCore, hg.eq_with t, ← hg.core, ← hts, ← hg.eq_with]

/-- A boundary that reads no vector clears its request bits, goes by a meaning without a read and may add events. -/
structure GoesBy (s : State) (f : State → State) (ops : List BusOp) : Prop where
  tail : Tail anyEffect f
  boundary : ∀ l, (s.setInside l).boundary = (f ((s.setReq s.clearedReq).setInside l)).addEvents ops

theorem tail_setIrqDelay (v : Bool) : Tail anyEffect (State.setIrqDelay · v) :=
  .regs _ ⟨fun _ _ _ _ _ => rfl, fun _ => keeps_anyEffect _ _⟩

/-- The registers a reset clears. -/
def State.resetRegs (s : State) : State :=
  (((((((s.setIff1 false).setIff2 false).setPc 0x0000#16).setI 0x00#8).setR 0x00#8).setIm .im0).setHalted
    false).setIrqDelay false

theorem goesBy_reset {s : State} (h : s.req.reset = true) : GoesBy s (fun t => t.resetRegs.tick 3) [] where
  tail := .seq (f := State.resetRegs) (g := (State.tick · 3))
    (.regs _ ⟨fun _ _ _ _ _ => rfl, fun _ => keeps_anyEffect _ _⟩) (.tick 3)
  boundary l := by
    rw [State.boundary_of_reset (s := s.setInside l) h, State.clearedReq, if_pos h]
    rfl

theorem State.serviceNmi_eq (s : State) :
    s.serviceNmi =
      ((((s.setReq { s.req with nmiDebug := false, nmiOther := false }).enterAt false s.iff1 5 s.sp s.pc).setPc
        Config.nmiVector).setWz Config.nmiVector).addEvents (if s.req.nmiDebug then [.debugNmiActivated] else []) := by
  rw [State.serviceNmi, State.enterHandler_eq]
  cases s.req.nmiDebug <;> rfl

theorem goesBy_nmi {s : State} (hr : s.req.reset = false) (h : s.req.nmiDebug = true ∨ s.req.nmiOther = true) :
    GoesBy s (fun t => (((t.setIrqDelay false).enterAt false s.iff1 5 s.sp s.pc).setPc Config.nmiVector).setWz
      Config.nmiVector) (if s.req.nmiDebug then [.debugNmiActivated] else []) where
  tail := .seq (tail_setIrqDelay false) (tail_enterFixed ..)
  boundary l := by
    have hn : (s.req.nmiDebug || s.req.nmiOther) = true := by simpa using h
    have hcleared : s.clearedReq = { s.req with nmiDebug := false, nmiOther := false } := by
      rw [State.clearedReq, if_neg (by simp [hr]), if_pos hn]
    rw [State.boundary_of_nmi (s := s.setInside l) hr h, hcleared, State.serviceNmi_eq]
    rfl

theorem goesBy_irq {s : State} (hr : s.req.reset = false) (hd : s.req.nmiDebug = false) (ho : s.req.nmiOther = false)
    (h : s.acceptsIrq) (him : s.im ≠ .im2) :
    GoesBy s (fun t => (((t.setIrqDelay false).enterAt false false 7 s.sp s.pc).setPc Config.irqVector).setWz
      Config.irqVector) [] where
  tail := .seq (tail_setIrqDelay false) (tail_enterFixed ..)
  boundary l := by
    have hcleared : s.clearedReq = s.req := by simp [State.clearedReq, hr, hd, ho]
    have him' : ((s.setInside l).setIrqDelay false).im ≠ .im2 := him
    rw [State.boundary_of_irq (s := s.setInside l) hr hd ho h, hcleared, State.serviceIrq_fixed him']
    rfl

theorem goesBy_none {s : State} (hr : s.req.reset = false) (hd : s.req.nmiDebug = false) (ho : s.req.nmiOther = false)
    (h : ¬ s.acceptsIrq) : GoesBy s (State.setIrqDelay · false) [] where
  tail := tail_setIrqDelay false
  boundary l := by
    have hcleared : s.clearedReq = s.req := by simp [State.clearedReq, hr, hd, ho]
    rw [State.boundary_of_none (s := s.setInside l) hr hd ho h, hcleared]
    rfl

theorem goesBy_of_not_vectored {s : State} (h : ¬ s.vectored) : ∃ f ops, GoesBy s f ops := by
  cases hr : s.req.reset with
  | true => exact ⟨_, _, goesBy_reset hr⟩
  | false =>
    by_cases hn : s.req.nmiDebug = true ∨ s.req.nmiOther = true
    · exact ⟨_, _, goesBy_nmi hr hn⟩
    · obtain ⟨hd, ho⟩ : s.req.nmiDebug = false ∧ s.req.nmiOther = false := by simpa using hn
      by_cases hi : s.acceptsIrq
      · have him : s.im ≠ .im2 := fun him => h ⟨hr, hd, ho, hi.1, hi.2.1, hi.2.2, him⟩
        exact ⟨_, _, goesBy_irq hr hd ho hi him⟩
      · exact ⟨_, _, goesBy_none hr hd ho hi⟩

/-- From `s` to `t` the request bits changed by the environment's actions only, those aside in which a quiet run
from `s` differs from it. -/
def EnvStepBeside (s t quiet : State) : Prop :=
  EnvStep { t with req := quiet.req, inside := s.inside } t

/-- The boundary in any environment and in a quiet one. -/
theorem GoesBy.shadows {s : State} {f : State → State} {ops : List BusOp} (h : GoesBy s f ops) :
    EnvStepBeside s s.boundary (s.setInside []).boundary ∧ SameCore s.boundary (s.setInside []).boundary ∧
      s.boundary.bus = (s.setInside []).boundary.bus := by
  obtain ⟨hf, hb⟩ := h
  have hs : s.boundary = (f (s.setReq s.clearedReq)).addEvents ops := hb s.inside
  have hstart : Shadows (s.setReq s.clearedReq) ((s.setReq s.clearedReq).setInside []) := ⟨rfl, rfl, rfl⟩
  have hend := hf.shadows hstart
  have hreq := (hf.envStep ((s.setReq s.clearedReq).setInside [])).quiet rfl
  rw [hs, hb []]
  refine ⟨(hf.envStep (s.setReq s.clearedReq)).congr rfl hreq, hend.core.addEvents ops, ?_⟩
  rw [State.bus_addEvents, State.bus_addEvents, hend.bus]

theorem State.boundary_vectored {s : State} (h : s.vectored) :
    s.boundary =
      ((s.beforeVector.memRead16 (join16 s.i Config.im2Low)).2.setPc
        (s.beforeVector.memRead16 (join16 s.i Config.im2Low)).1).setWz
        (s.beforeVector.memRead16 (join16 s.i Config.im2Low)).1 := by
  obtain ⟨hr, hd, ho, hreq, hi, hdelay, him⟩ := h
  rw [State.boundary_of_irq hr hd ho ⟨hreq, hi, hdelay⟩, State.serviceIrq_vectored him]

theorem tail_beforeVector (sp pc : Word) :
    Tail anyEffect fun t => (t.setIrqDelay false).enterAt false false 7 sp pc :=
  .seq (tail_setIrqDelay false) (tail_enterAt ..)

theorem State.beforeVector_shadows (s : State) : Shadows s.beforeVector (s.setInside []).beforeVector := by
  unfold State.beforeVector
  exact (tail_beforeVector s.sp s.pc).shadows ⟨rfl, rfl, rfl⟩

theorem State.beforeVector_envStep (s : State) (a : Word) : EnvStep s (s.beforeVector.memRead16 a).2 := by
  have h : EnvStep s s.beforeVector := by
    unfold State.beforeVector
    exact (tail_beforeVector s.sp s.pc).envStep s
  exact h.trans (State.memRead16_envStep _ a)

theorem State.memRead16_bus_any (s : State) (a : Word) :
    (s.memRead16 a).2.bus =
      .memRead (a + 1#16) ((s.memRead a).2.memRead (a + 1#16)).1 :: .memRead a (s.memRead a).1 :: s.bus := by
  simp [State.memRead16]

/-- In mode 2, the two vector reads are what the environment decides. -/
theorem State.vectored_shadows {s : State} (h : s.vectored) :
    EnvStepBeside s s.boundary (s.setInside []).boundary ∧
      ∃ lo hi,
        SameCore s.boundary (((s.setInside []).boundary.setPc (join16 hi lo)).setWz (join16 hi lo)) ∧
        s.boundary.bus =
          [.memRead (join16 s.i Config.im2Low + 1#16) hi, .memRead (join16 s.i Config.im2Low) lo,
            .memWrite (s.sp - 2#16) (lo8 s.pc), .memWrite (s.sp - 1#16) (hi8 s.pc)] ++ s.bus := by
  have hpushed := s.beforeVector_shadows
  have hquiet : (s.setInside []).boundary = _ := State.boundary_vectored (s := s.setInside []) h
  rw [State.boundary_vectored h, hquiet, State.setInside_i]
  generalize join16 s.i Config.im2Low = v at *
  refine ⟨(s.beforeVector_envStep v).congr rfl ?req, (s.beforeVector.memRead v).1,
    ((s.beforeVector.memRead v).2.memRead (v + 1#16)).1, ?core, ?bus⟩
  case req => exact ((s.setInside []).beforeVector_envStep v).quiet rfl
  case core =>
    show SameCore _ ((((s.setInside []).beforeVector.memRead16 v).2.setPc _).setWz _)
    exact SameCore.regs (writesCore_popPc (W := anyEffect) rfl (s.beforeVector.memRead16 v).1)
      (((s.beforeVector.memRead16_core v).trans hpushed.core).trans
        ((s.setInside []).beforeVector.memRead16_core v).symm)
  case bus =>
    show (s.beforeVector.memRead16 v).2.bus = _
    rw [State.memRead16_bus_any, State.beforeVector, State.enterAt_bus]
    rfl

/-- Settles O60: the instruction by induction over its parts in both environments; the boundary by its cases. -/
theorem environmentOnlyAnswers : Obligations.EnvironmentOnlyAnswers := by
  unfold Obligations.EnvironmentOnlyAnswers
  refine ⟨fun i s t ht => ?exec, fun s => ?boundary⟩
  case exec =>
    obtain ⟨m, hm, u, hu, hshadows⟩ := exec_shadows ht
    exact ⟨m, hm, u, hu, hshadows.core, hshadows.bus⟩
  case boundary =>
    by_cases h : s.vectored
    · obtain ⟨henv, hvector⟩ := State.vectored_shadows h
      exact ⟨henv, fun hn => absurd h hn, fun _ => hvector⟩
    · obtain ⟨f, ops, hf⟩ := goesBy_of_not_vectored h
      obtain ⟨henv, hcore, hbus⟩ := hf.shadows
      exact ⟨henv, fun _ => ⟨hcore, hbus⟩, fun hv => absurd hv h⟩

end Sys2Proof.Machine
end

section
/-! SUPPORT. Every well-formed instruction's bytes are that instruction (30_encoding.md R98 to R102, R106): the rows
of the tables that no lemma before this reads, and then all of them. -/

namespace Sys2Proof.Machine

section

variable (r : Reg8) (x : Idx) (d n : Byte) (b y z : BitVec 3)

theorem reads_jrCc (cc : CondJr) : Reads [xyz 0#2 cc.code 0#3, n] .documented (.jrCc cc n) :=
  reads_main rfl (xyz_unprefixed 0#2 _ _ (by decide)) fun _ => by cases cc <;> rfl

theorem reads_inRC : Reads [0xED#8, xyz 1#2 r.code 0#3] .documented (.inRC r) :=
  reads_ed rfl fun _ => by simp [edTable]

theorem reads_outCR : Reads [0xED#8, xyz 1#2 r.code 1#3] .documented (.outCR r) :=
  reads_ed rfl fun _ => by simp [edTable]

/-- Column 5 of the ED table is RETN; its rows 0 and 1 are documented (R100). -/
theorem reads_retnY {y : BitVec 3} (h0 : y ≠ 0#3) (h1 : y ≠ 1#3) :
    Reads [0xED#8, xyz 1#2 y 5#3] .undocumented (.retnY y) := by
  have h0' : y.toNat ≠ 0 := fun h => h0 (BitVec.eq_of_toNat_eq h)
  have h1' : y.toNat ≠ 1 := fun h => h1 (BitVec.eq_of_toNat_eq h)
  exact reads_ed rfl fun _ => by simp [edTable]

/-- Column 6 of the ED table is IM; its rows 0, 2 and 3 are documented (R100). -/
theorem reads_imY {y : BitVec 3} (h0 : y ≠ 0#3) (h2 : y ≠ 2#3) (h3 : y ≠ 3#3) :
    Reads [0xED#8, xyz 1#2 y 6#3] .undocumented (.imY y) := by
  have h0' : y.toNat ≠ 0 := fun h => h0 (BitVec.eq_of_toNat_eq h)
  have h2' : y.toNat ≠ 2 := fun h => h2 (BitVec.eq_of_toNat_eq h)
  have h3' : y.toNat ≠ 3 := fun h => h3 (BitVec.eq_of_toNat_eq h)
  exact reads_ed rfl fun _ => by simp [edTable]

theorem reads_nopEd : ∀ q : BitVec 1, Reads [0xED#8, xpqz 1#2 3#2 q 7#3] .undocumented (.nopEd q) := by
  intro q
  refine reads_ed rfl fun _ => ?_
  have h : ∀ q : BitVec 1, (xpqz 1#2 3#2 q 7#3).extractLsb' 3 1 = q := by decide
  have hq : q.toNat < 2 := q.isLt
  simp only [edTable, fieldX_xpqz, fieldY_xpqz, fieldZ_xpqz, h]
  obtain h0 | h1 : q.toNat = 0 ∨ q.toNat = 1 := by omega
  · simp [h0]
  · simp [h1]

/-! ### The DD CB and FD CB tables -/

theorem reads_xycb {op : Byte} {c : InstrClass} {i : Instr} (hc : i.klass = c) (hi : xycbTable x d op = i) :
    Reads [x.lead, 0xCB#8, d, op] c i := by
  subst hi
  exact ⟨hc, fun _ => decode_xycb x d op⟩

theorem reads_rotAtXyd :
    Reads [x.lead, 0xCB#8, d, xyz 0#2 y 6#3] (rotAtXyd y.toNat x d).klass (rotAtXyd y.toNat x d) :=
  reads_xycb x d rfl (by simp [xycbTable])

theorem reads_rotAtXydR :
    Reads [x.lead, 0xCB#8, d, xyz 0#2 y r.code] (rotAtXydR y.toNat x d r).klass (rotAtXydR y.toNat x d r) :=
  reads_xycb x d rfl (by simp [xycbTable])

theorem reads_bitBAtXyd : Reads [x.lead, 0xCB#8, d, xyz 1#2 b 6#3] .documented (.bitBAtXyd b x d) :=
  reads_xycb x d rfl (by simp [xycbTable])

theorem reads_bitBAtXydZ {z : BitVec 3} (hz : z ≠ 6#3) :
    Reads [x.lead, 0xCB#8, d, xyz 1#2 b z] .undocumented (.bitBAtXydZ b x d z) := by
  have hsel : selR8 z.toNat ≠ none := fun h =>
    hz (BitVec.eq_of_toNat_eq ((selR8_none z.isLt).mp h))
  obtain ⟨r, hr⟩ := Option.ne_none_iff_exists'.mp hsel
  exact reads_xycb x d rfl (by simp [xycbTable, hr])

theorem reads_resBAtXyd : Reads [x.lead, 0xCB#8, d, xyz 2#2 b 6#3] .documented (.resBAtXyd b x d) :=
  reads_xycb x d rfl (by simp [xycbTable])

theorem reads_resBAtXydR : Reads [x.lead, 0xCB#8, d, xyz 2#2 b r.code] .undocumented (.resBAtXydR b x d r) :=
  reads_xycb x d rfl (by simp [xycbTable])

theorem reads_setBAtXyd : Reads [x.lead, 0xCB#8, d, xyz 3#2 b 6#3] .documented (.setBAtXyd b x d) :=
  reads_xycb x d rfl (by simp [xycbTable])

theorem reads_setBAtXydR : Reads [x.lead, 0xCB#8, d, xyz 3#2 b r.code] .undocumented (.setBAtXydR b x d r) :=
  reads_xycb x d rfl (by simp [xycbTable])

end

/-- A word operand is read from its halves. -/
theorem reads_of_halves {bs : List Byte} {c : InstrClass} (k : Word → Instr) (nn : Word)
    (h : Reads bs c (k (join16 (hi8 nn) (lo8 nn)))) : Reads bs c (k nn) := by
  rwa [join16_halves] at h

theorem reads_encode (i : Instr) (hw : i.wellFormed = true) : Reads (encode i) i.klass i := by
  cases i with
  -- main table, one byte
  | nop | exAfAf | ldAtBcA | ldAtDeA | ldAAtBc | ldAAtDe | incAtHl | decAtHl | rlca | rrca | rla | rra | daa | cpl | scf
  | ccf | halt | ret | exx | jpHl | ldSpHl | exAtSpHl | exDeHl | di | ei | djnz | jr | ldAtHlN | outNA | inAN =>
    exact reads_main rfl (by decide) fun _ => rfl
  | ldAtNnHl nn => exact reads_of_halves .ldAtNnHl nn (reads_main rfl (by decide) fun _ => rfl)
  | ldAtNnA nn => exact reads_of_halves .ldAtNnA nn (reads_main rfl (by decide) fun _ => rfl)
  | ldHlAtNn nn => exact reads_of_halves .ldHlAtNn nn (reads_main rfl (by decide) fun _ => rfl)
  | ldAAtNn nn => exact reads_of_halves .ldAAtNn nn (reads_main rfl (by decide) fun _ => rfl)
  | jpNn nn => exact reads_of_halves .jpNn nn (reads_main rfl (by decide) fun _ => rfl)
  | callNn nn => exact reads_of_halves .callNn nn (reads_main rfl (by decide) fun _ => rfl)
  | jrCc cc e => exact reads_jrCc e cc
  | ldDdNn p nn => exact reads_of_halves (.ldDdNn p) nn (reads_ldDdNn p _ _)
  | addHlSs p => exact reads_addHlSs p
  | incSs p => exact reads_incSs p
  | decSs p => exact reads_decSs p
  | incR r => exact reads_incR r
  | decR r => exact reads_decR r
  | ldRN r n => exact reads_ldRN r n
  | ldRR r r' => exact reads_ldRR r r'
  | ldRAtHl r => exact reads_ldRAtHl r
  | ldAtHlR r => exact reads_ldAtHlR r
  | retCc cc => exact reads_retCc cc
  | jpCcNn cc nn => exact reads_of_halves (.jpCcNn cc) nn (reads_jpCcNn cc _ _)
  | callCcNn cc nn => exact reads_of_halves (.callCcNn cc) nn (reads_callCcNn cc _ _)
  | popQq q => exact reads_popQq q
  | pushQq q => exact reads_pushQq q
  | rstP t => exact reads_rstP t
  | addAR r => exact reads_aluR 0#3 r
  | adcAR r => exact reads_aluR 1#3 r
  | subR r => exact reads_aluR 2#3 r
  | sbcAR r => exact reads_aluR 3#3 r
  | andR r => exact reads_aluR 4#3 r
  | xorR r => exact reads_aluR 5#3 r
  | orR r => exact reads_aluR 6#3 r
  | cpR r => exact reads_aluR 7#3 r
  | addAAtHl => exact reads_aluAtHl 0#3
  | adcAAtHl => exact reads_aluAtHl 1#3
  | subAtHl => exact reads_aluAtHl 2#3
  | sbcAAtHl => exact reads_aluAtHl 3#3
  | andAtHl => exact reads_aluAtHl 4#3
  | xorAtHl => exact reads_aluAtHl 5#3
  | orAtHl => exact reads_aluAtHl 6#3
  | cpAtHl => exact reads_aluAtHl 7#3
  | addAN n => exact reads_aluN 0#3 n
  | adcAN n => exact reads_aluN 1#3 n
  | subN n => exact reads_aluN 2#3 n
  | sbcAN n => exact reads_aluN 3#3 n
  | andN n => exact reads_aluN 4#3 n
  | xorN n => exact reads_aluN 5#3 n
  | orN n => exact reads_aluN 6#3 n
  | cpN n => exact reads_aluN 7#3 n
  -- CB table
  | rlcR r => exact reads_rotR 0#3 r
  | rrcR r => exact reads_rotR 1#3 r
  | rlR r => exact reads_rotR 2#3 r
  | rrR r => exact reads_rotR 3#3 r
  | slaR r => exact reads_rotR 4#3 r
  | sraR r => exact reads_rotR 5#3 r
  | sllR r => exact reads_rotR 6#3 r
  | srlR r => exact reads_rotR 7#3 r
  | rlcAtHl => exact reads_rotAtHl 0#3
  | rrcAtHl => exact reads_rotAtHl 1#3
  | rlAtHl => exact reads_rotAtHl 2#3
  | rrAtHl => exact reads_rotAtHl 3#3
  | slaAtHl => exact reads_rotAtHl 4#3
  | sraAtHl => exact reads_rotAtHl 5#3
  | sllAtHl => exact reads_rotAtHl 6#3
  | srlAtHl => exact reads_rotAtHl 7#3
  | bitBR b r => exact reads_bitBR b r
  | bitBAtHl b => exact reads_bitBAtHl b
  | resBR b r => exact reads_resBR b r
  | resBAtHl b => exact reads_resBAtHl b
  | setBR b r => exact reads_setBR b r
  | setBAtHl b => exact reads_setBAtHl b
  -- ED table
  | inFC | outC0 | neg | retn | reti | im0 | im1 | im2 | ldIA | ldRA | ldAI | ldAR | rrd | rld | ldi | ldd | ldir | lddr
  | cpi | cpd | cpir | cpdr | ini | ind | inir | indr | outi | outd | otir | otdr =>
    exact reads_ed rfl fun _ => rfl
  | inRC r => exact reads_inRC r
  | outCR r => exact reads_outCR r
  | sbcHlSs p => exact reads_sbcHlSs p
  | adcHlSs p => exact reads_adcHlSs p
  | ldAtNnDd nn p => exact reads_of_halves (.ldAtNnDd · p) nn (reads_ldAtNnDd p _ _)
  | ldDdAtNn p nn => exact reads_of_halves (.ldDdAtNn p) nn (reads_ldDdAtNn p _ _)
  | negY y => exact reads_negY (by simpa [Instr.wellFormed] using hw)
  | retnY y =>
    obtain ⟨h0, h1⟩ : y ≠ 0#3 ∧ y ≠ 1#3 := by simpa [Instr.wellFormed] using hw
    exact reads_retnY h0 h1
  | imY y =>
    obtain ⟨⟨h0, h2⟩, h3⟩ : (y ≠ 0#3 ∧ y ≠ 2#3) ∧ y ≠ 3#3 := by simpa [Instr.wellFormed] using hw
    exact reads_imY h0 h2 h3
  | nopEd q => exact reads_nopEd q
  -- DD and FD tables
  | incXy | decXy | incXyh | decXyh | incXyl | decXyl | ldXyhN | ldXylN | incAtXyd | decAtXyd | ldAtXydN | popXy
  | exAtSpXy | pushXy | jpXy | ldSpXy =>
    exact reads_xy rfl (by decide) fun _ => rfl
  | ldXyNn x nn => exact reads_of_halves (.ldXyNn x) nn (reads_xy rfl (by decide) fun _ => rfl)
  | ldAtNnXy nn x => exact reads_of_halves (.ldAtNnXy · x) nn (reads_xy rfl (by decide) fun _ => rfl)
  | ldXyAtNn x nn => exact reads_of_halves (.ldXyAtNn x) nn (reads_xy rfl (by decide) fun _ => rfl)
  | addXyPp x p => exact reads_addXyPp x p
  | ldRAtXyd r x d => exact reads_ldRAtXyd r x d
  | ldAtXydR x d r => exact reads_ldAtXydR r x d
  | ldHalfP x hf p => exact reads_ldHalfP x hf p
  | ldPHalf x p hf =>
    obtain ⟨hh, hl⟩ : p ≠ .xh ∧ p ≠ .xl := by simpa [Instr.wellFormed] using hw
    exact reads_ldPHalf x hf hh hl
  | addAAtXyd x d => exact reads_aluAtXyd 0#3 x d
  | adcAAtXyd x d => exact reads_aluAtXyd 1#3 x d
  | subAtXyd x d => exact reads_aluAtXyd 2#3 x d
  | sbcAAtXyd x d => exact reads_aluAtXyd 3#3 x d
  | andAtXyd x d => exact reads_aluAtXyd 4#3 x d
  | xorAtXyd x d => exact reads_aluAtXyd 5#3 x d
  | orAtXyd x d => exact reads_aluAtXyd 6#3 x d
  | cpAtXyd x d => exact reads_aluAtXyd 7#3 x d
  | addAHalf x hf => exact reads_aluHalf 0#3 x hf
  | adcAHalf x hf => exact reads_aluHalf 1#3 x hf
  | subHalf x hf => exact reads_aluHalf 2#3 x hf
  | sbcAHalf x hf => exact reads_aluHalf 3#3 x hf
  | andHalf x hf => exact reads_aluHalf 4#3 x hf
  | xorHalf x hf => exact reads_aluHalf 5#3 x hf
  | orHalf x hf => exact reads_aluHalf 6#3 x hf
  | cpHalf x hf => exact reads_aluHalf 7#3 x hf
  -- DD CB and FD CB tables
  | rlcAtXyd x d => exact reads_rotAtXyd x d 0#3
  | rrcAtXyd x d => exact reads_rotAtXyd x d 1#3
  | rlAtXyd x d => exact reads_rotAtXyd x d 2#3
  | rrAtXyd x d => exact reads_rotAtXyd x d 3#3
  | slaAtXyd x d => exact reads_rotAtXyd x d 4#3
  | sraAtXyd x d => exact reads_rotAtXyd x d 5#3
  | sllAtXyd x d => exact reads_rotAtXyd x d 6#3
  | srlAtXyd x d => exact reads_rotAtXyd x d 7#3
  | rlcAtXydR x d r => exact reads_rotAtXydR r x d 0#3
  | rrcAtXydR x d r => exact reads_rotAtXydR r x d 1#3
  | rlAtXydR x d r => exact reads_rotAtXydR r x d 2#3
  | rrAtXydR x d r => exact reads_rotAtXydR r x d 3#3
  | slaAtXydR x d r => exact reads_rotAtXydR r x d 4#3
  | sraAtXydR x d r => exact reads_rotAtXydR r x d 5#3
  | sllAtXydR x d r => exact reads_rotAtXydR r x d 6#3
  | srlAtXydR x d r => exact reads_rotAtXydR r x d 7#3
  | bitBAtXyd b x d => exact reads_bitBAtXyd x d b
  | bitBAtXydZ b x d z => exact reads_bitBAtXydZ x d b (by simpa [Instr.wellFormed] using hw)
  | resBAtXyd b x d => exact reads_resBAtXyd x d b
  | resBAtXydR b x d r => exact reads_resBAtXydR r x d b
  | setBAtXyd b x d => exact reads_setBAtXyd x d b
  | setBAtXydR b x d r => exact reads_setBAtXydR r x d b

/-- Settles O4: row by row of the tables. -/
theorem decodeEncode : Obligations.DecodeEncode := by
  unfold Obligations.DecodeEncode
  exact fun i hw => (reads_encode i hw).2

end Sys2Proof.Machine
end

section
/-! SUPPORT. What a row of a table holds (30_encoding.md R98 to R102): the instruction is well-formed, and its encoding is
the bytes it was read from. -/

namespace Sys2Proof

/-! ## An opcode byte and its fields -/

theorem toNat_xyz : ∀ x y z, (xyz x y z).toNat = 64 * x.toNat + 8 * y.toNat + z.toNat := by decide +kernel

theorem toNat_xpqz : ∀ x p q z, (xpqz x p q z).toNat = 64 * x.toNat + 16 * p.toNat + 8 * q.toNat + z.toNat := by
  decide +kernel

/-- An opcode byte in terms of its fields, and their ranges (R93). -/
theorem byte_fields (op : Byte) :
    op.toNat = 64 * fieldX op + 8 * fieldY op + fieldZ op ∧ fieldX op < 4 ∧ fieldY op < 8 ∧ fieldZ op < 8 ∧
      fieldY op = 2 * fieldP op + fieldQ op ∧ fieldQ op < 2 := by
  have := op.isLt
  unfold fieldX fieldY fieldZ fieldP fieldQ
  omega

section

variable (op : Byte)

theorem code_selRp : (selRp (fieldP op)).code.toNat = fieldP op := by
  revert op
  decide +kernel

theorem code_selRp2 : (selRp2 (fieldP op)).code.toNat = fieldP op := by
  revert op
  decide +kernel

theorem code_selRpX : (selRpX (fieldP op)).code.toNat = fieldP op := by
  revert op
  decide +kernel

theorem code_selCond : (selCond (fieldY op)).code.toNat = fieldY op := by
  revert op
  decide +kernel

theorem extract_y : (op.extractLsb' 3 3).toNat = fieldY op := by
  revert op
  decide +kernel

theorem extract_z : (op.extractLsb' 0 3).toNat = fieldZ op := by
  revert op
  decide +kernel

theorem extract_q : (op.extractLsb' 3 1).toNat = fieldQ op := by
  revert op
  decide +kernel

end

theorem code_selHalf {n : Nat} {hf : Half} (h : selHalf n = some hf) : hf.code.toNat = n := by
  unfold selHalf at h
  split at h <;> cases h <;> rfl

theorem code_selP8 {n : Nat} {p : Reg8X} (h : selP8 n = some p) : p.code.toNat = n := by
  unfold selP8 at h
  split at h <;> cases h <;> rfl

/-- Index 6 of `p8` names no register. -/
theorem selP8_none {n : Nat} (hn : n < 8) : selP8 n = none ↔ n = 6 := by
  have h : ∀ k : Fin 8, selP8 k.val = none ↔ k.val = 6 := by decide
  exact h ⟨n, hn⟩

/-- A byte is its fields. -/
theorem eq_of_fields {op c : Byte} (hx : fieldX op = fieldX c) (hy : fieldY op = fieldY c) (hz : fieldZ op = fieldZ c) :
    c = op := by
  obtain ⟨hop, -⟩ := byte_fields op
  obtain ⟨hc, -⟩ := byte_fields c
  exact BitVec.eq_of_toNat_eq (by rw [hop, hc, hx, hy, hz])

/-- The opcode byte whose fields are those of `op` is `op`. -/
theorem eq_of_xyz {op : Byte} {x : BitVec 2} {y z : BitVec 3} (hx : fieldX op = x.toNat) (hy : fieldY op = y.toNat)
    (hz : fieldZ op = z.toNat) : xyz x y z = op := by
  obtain ⟨hop, -⟩ := byte_fields op
  exact BitVec.eq_of_toNat_eq (by rw [toNat_xyz, hop, hx, hy, hz])

/-! ## Rows -/

/-- The instruction of a table row: well-formed, with `n` opcode bytes, all of them before its operands, and encoded
by the bytes it was read from. -/
structure IsRow (n : Nat) (bs : List Byte) (i : Instr) : Prop where
  wellFormed : i.wellFormed = true
  opcodes : (i.opcodeFetches, i.format == .xycb) = (n, false)
  encoding : encode i = bs.take i.format.len

theorem fieldX_cases (op : Byte) : fieldX op = 0 ∨ fieldX op = 1 ∨ fieldX op = 2 ∨ fieldX op = 3 := by
  have hX : fieldX op < 4 := (byte_fields op).2.1
  omega

/-- The eight operations of a column, in the order of their index. -/
theorem column_cases {p : Nat → Prop} (h : p 0 ∧ p 1 ∧ p 2 ∧ p 3 ∧ p 4 ∧ p 5 ∧ p 6 ∧ p 7) (op : Byte) :
    p (fieldY op) := by
  obtain ⟨h0, h1, h2, h3, h4, h5, h6, h7⟩ := h
  have hk : fieldY op < 8 := (byte_fields op).2.2.1
  interval_cases fieldY op <;> assumption

theorem fieldY_toNat (op : Byte) : fieldY op = (BitVec.ofNat 3 (fieldY op)).toNat := by
  have hk : fieldY op < 8 := (byte_fields op).2.2.1
  simp only [BitVec.toNat_ofNat]
  omega

/-! ### The operations of the accumulator and the rotates -/

section

variable {op : Byte} (b1 b2 b3 : Byte)

theorem aluR_row {r : Reg8} (hx : fieldX op = 2) (hr : selR8 (fieldZ op) = some r) :
    IsRow 1 [op, b1, b2, b3] (aluR (fieldY op) r) := by
  have hrow := column_cases (p := fun k => IsRow 1 [xyz 2#2 (BitVec.ofNat 3 k) r.code, b1, b2, b3] (aluR k r))
    (by refine ⟨?_, ?_, ?_, ?_, ?_, ?_, ?_, ?_⟩ <;> exact ⟨rfl, rfl, rfl⟩) op
  have hop : xyz 2#2 (BitVec.ofNat 3 (fieldY op)) r.code = op := eq_of_xyz hx (fieldY_toNat op) (code_selR8 hr).symm
  rwa [hop] at hrow

theorem aluAtHl_row  (hx : fieldX op = 2) (hz : fieldZ op = 6) :
    IsRow 1 [op, b1, b2, b3] (aluAtHl (fieldY op)) := by
  have hrow := column_cases (p := fun k => IsRow 1 [xyz 2#2 (BitVec.ofNat 3 k) 6#3, b1, b2, b3] (aluAtHl k))
    (by refine ⟨?_, ?_, ?_, ?_, ?_, ?_, ?_, ?_⟩ <;> exact ⟨rfl, rfl, rfl⟩) op
  have hop : xyz 2#2 (BitVec.ofNat 3 (fieldY op)) 6#3 = op := eq_of_xyz hx (fieldY_toNat op) hz
  rwa [hop] at hrow

theorem aluN_row  (hx : fieldX op = 3) (hz : fieldZ op = 6) :
    IsRow 1 [op, b1, b2, b3] (aluN (fieldY op) b1) := by
  have hrow := column_cases (p := fun k => IsRow 1 [xyz 3#2 (BitVec.ofNat 3 k) 6#3, b1, b2, b3] (aluN k b1))
    (by refine ⟨?_, ?_, ?_, ?_, ?_, ?_, ?_, ?_⟩ <;> exact ⟨rfl, rfl, rfl⟩) op
  have hop : xyz 3#2 (BitVec.ofNat 3 (fieldY op)) 6#3 = op := eq_of_xyz hx (fieldY_toNat op) hz
  rwa [hop] at hrow

theorem rotR_row {r : Reg8} (hx : fieldX op = 0) (hr : selR8 (fieldZ op) = some r) :
    IsRow 2 [0xCB#8, op, b2, b3] (rotR (fieldY op) r) := by
  have hrow := column_cases (p := fun k => IsRow 2 [0xCB#8, xyz 0#2 (BitVec.ofNat 3 k) r.code, b2, b3] (rotR k r))
    (by refine ⟨?_, ?_, ?_, ?_, ?_, ?_, ?_, ?_⟩ <;> exact ⟨rfl, rfl, rfl⟩) op
  have hop : xyz 0#2 (BitVec.ofNat 3 (fieldY op)) r.code = op := eq_of_xyz hx (fieldY_toNat op) (code_selR8 hr).symm
  rwa [hop] at hrow

theorem rotAtHl_row  (hx : fieldX op = 0) (hz : fieldZ op = 6) :
    IsRow 2 [0xCB#8, op, b2, b3] (rotAtHl (fieldY op)) := by
  have hrow := column_cases (p := fun k => IsRow 2 [0xCB#8, xyz 0#2 (BitVec.ofNat 3 k) 6#3, b2, b3] (rotAtHl k))
    (by refine ⟨?_, ?_, ?_, ?_, ?_, ?_, ?_, ?_⟩ <;> exact ⟨rfl, rfl, rfl⟩) op
  have hop : xyz 0#2 (BitVec.ofNat 3 (fieldY op)) 6#3 = op := eq_of_xyz hx (fieldY_toNat op) hz
  rwa [hop] at hrow

theorem aluAtXyd_row {x : Idx} (hx : fieldX op = 2) (hz : fieldZ op = 6) :
    IsRow 2 [x.lead, op, b2, b3] (aluAtXyd (fieldY op) x b2) := by
  have hrow := column_cases (p := fun k => IsRow 2 [x.lead, xyz 2#2 (BitVec.ofNat 3 k) 6#3, b2, b3] (aluAtXyd k x b2))
    (by refine ⟨?_, ?_, ?_, ?_, ?_, ?_, ?_, ?_⟩ <;> exact ⟨rfl, rfl, rfl⟩) op
  have hop : xyz 2#2 (BitVec.ofNat 3 (fieldY op)) 6#3 = op := eq_of_xyz hx (fieldY_toNat op) hz
  rwa [hop] at hrow

theorem aluHalf_row {x : Idx} {hf : Half} (hx : fieldX op = 2) (hh : selHalf (fieldZ op) = some hf) :
    IsRow 2 [x.lead, op, b2, b3] (aluHalf (fieldY op) x hf) := by
  have hrow := column_cases (p := fun k => IsRow 2 [x.lead, xyz 2#2 (BitVec.ofNat 3 k) hf.code, b2, b3] (aluHalf k x hf))
    (by refine ⟨?_, ?_, ?_, ?_, ?_, ?_, ?_, ?_⟩ <;> exact ⟨rfl, rfl, rfl⟩) op
  have hop : xyz 2#2 (BitVec.ofNat 3 (fieldY op)) hf.code = op := eq_of_xyz hx (fieldY_toNat op) (code_selHalf hh).symm
  rwa [hop] at hrow

theorem rotAtXyd_row {op : Byte} (x : Idx) (d : Byte) (hx : fieldX op = 0) (hz : fieldZ op = 6) :
    (rotAtXyd (fieldY op) x d).wellFormed = true ∧ (rotAtXyd (fieldY op) x d).format = .xycb ∧
      encode (rotAtXyd (fieldY op) x d) = [x.lead, 0xCB#8, d, op] := by
  have hrow := column_cases (p := fun k => (rotAtXyd k x d).wellFormed = true ∧ (rotAtXyd k x d).format = .xycb ∧
      encode (rotAtXyd k x d) = [x.lead, 0xCB#8, d, xyz 0#2 (BitVec.ofNat 3 k) 6#3])
    (by refine ⟨?_, ?_, ?_, ?_, ?_, ?_, ?_, ?_⟩ <;> exact ⟨rfl, rfl, rfl⟩) op
  have hop : xyz 0#2 (BitVec.ofNat 3 (fieldY op)) 6#3 = op := eq_of_xyz hx (fieldY_toNat op) hz
  rwa [hop] at hrow

theorem rotAtXydR_row {op : Byte} (x : Idx) (d : Byte) {r : Reg8} (hx : fieldX op = 0) (hr : selR8 (fieldZ op) = some r) :
    (rotAtXydR (fieldY op) x d r).wellFormed = true ∧ (rotAtXydR (fieldY op) x d r).format = .xycb ∧
      encode (rotAtXydR (fieldY op) x d r) = [x.lead, 0xCB#8, d, op] := by
  have hrow := column_cases (p := fun k => (rotAtXydR k x d r).wellFormed = true ∧ (rotAtXydR k x d r).format = .xycb ∧
      encode (rotAtXydR k x d r) = [x.lead, 0xCB#8, d, xyz 0#2 (BitVec.ofNat 3 k) r.code])
    (by refine ⟨?_, ?_, ?_, ?_, ?_, ?_, ?_, ?_⟩ <;> exact ⟨rfl, rfl, rfl⟩) op
  have hop : xyz 0#2 (BitVec.ofNat 3 (fieldY op)) r.code = op := eq_of_xyz hx (fieldY_toNat op) (code_selR8 hr).symm
  rwa [hop] at hrow

end

section

variable {op b1 b2 b3 : Byte} {i : Instr}

theorem mainTable_row_x0 (h : mainTable op b1 b2 = some i) (hx : fieldX op = 0) : IsRow 1 [op, b1, b2, b3] i := by
  obtain ⟨hop, -, hY, hZ, hpq, hQ⟩ := byte_fields op
  simp only [mainTable, hx] at h
  split at h
  case h_1 hz =>
    split at h <;> cases h <;>
      refine ⟨rfl, rfl, congrArg₂ List.cons (BitVec.eq_of_toNat_eq ?_) (by simp)⟩ <;>
      simp only [BitVec.toNat_ofNat, toNat_xyz, CondJr.code, imp_false] at * <;> omega
  case h_2 hz =>
    split at h <;> cases h <;>
      refine ⟨rfl, rfl, congrArg₂ List.cons (BitVec.eq_of_toNat_eq ?_) (by simp)⟩ <;>
      simp only [BitVec.toNat_ofNat, toNat_xpqz, code_selRp, imp_false] at * <;> omega
  case h_3 hz =>
    split at h <;> cases h <;>
      refine ⟨rfl, rfl, congrArg₂ List.cons (BitVec.eq_of_toNat_eq ?_) (by simp)⟩ <;>
      simp only [BitVec.toNat_ofNat,  imp_false] at * <;> omega
  case h_4 hz =>
    split at h <;> cases h <;>
      refine ⟨rfl, rfl, congrArg₂ List.cons (BitVec.eq_of_toNat_eq ?_) (by simp)⟩ <;>
      simp only [BitVec.toNat_ofNat, toNat_xpqz, code_selRp, imp_false] at * <;> omega
  case h_5 hz =>
    split at h <;> cases h
    · next r hr => exact ⟨rfl, rfl, congrArg (· :: _) (eq_of_xyz hx (code_selR8 hr).symm hz)⟩
    · next hr => exact ⟨rfl, rfl, congrArg (· :: _) (eq_of_fields hx ((selR8_none hY).mp hr) hz)⟩
  case h_6 hz =>
    split at h <;> cases h
    · next r hr => exact ⟨rfl, rfl, congrArg (· :: _) (eq_of_xyz hx (code_selR8 hr).symm hz)⟩
    · next hr => exact ⟨rfl, rfl, congrArg (· :: _) (eq_of_fields hx ((selR8_none hY).mp hr) hz)⟩
  case h_7 hz =>
    split at h <;> cases h
    · next r hr => exact ⟨rfl, rfl, congrArg (· :: _) (eq_of_xyz hx (code_selR8 hr).symm hz)⟩
    · next hr => exact ⟨rfl, rfl, congrArg (· :: _) (eq_of_fields hx ((selR8_none hY).mp hr) hz)⟩
  case h_8 =>
    split at h <;> cases h <;>
      refine ⟨rfl, rfl, congrArg₂ List.cons (BitVec.eq_of_toNat_eq ?_) (by simp)⟩ <;>
      simp only [BitVec.toNat_ofNat,  imp_false] at * <;> omega

theorem mainTable_row_x1 (h : mainTable op b1 b2 = some i) (hx : fieldX op = 1) : IsRow 1 [op, b1, b2, b3] i := by
  obtain ⟨-, -, hY, hZ, -⟩ := byte_fields op
  simp only [mainTable, hx] at h
  split at h <;> cases h
  case h_1 r r' hr hr' =>
    exact ⟨rfl, rfl, congrArg (· :: _) (eq_of_xyz hx (code_selR8 hr).symm (code_selR8 hr').symm)⟩
  case h_2 r hr hz =>
    exact ⟨rfl, rfl, congrArg (· :: _) (eq_of_xyz hx (code_selR8 hr).symm ((selR8_none hZ).mp hz))⟩
  case h_3 r hy hr =>
    exact ⟨rfl, rfl, congrArg (· :: _) (eq_of_xyz hx ((selR8_none hY).mp hy) (code_selR8 hr).symm)⟩
  case h_4 hy hz =>
    exact ⟨rfl, rfl, congrArg (· :: _) (eq_of_fields hx ((selR8_none hY).mp hy) ((selR8_none hZ).mp hz))⟩

theorem mainTable_row_x2 (h : mainTable op b1 b2 = some i) (hx : fieldX op = 2) : IsRow 1 [op, b1, b2, b3] i := by
  obtain ⟨-, -, -, hZ, -⟩ := byte_fields op
  simp only [mainTable, hx] at h
  split at h <;> cases h
  · next r hr => exact aluR_row b1 b2 b3 hx hr
  · next hr => exact aluAtHl_row b1 b2 b3 hx ((selR8_none hZ).mp hr)

theorem mainTable_row_x3 (h : mainTable op b1 b2 = some i) (hx : fieldX op = 3) : IsRow 1 [op, b1, b2, b3] i := by
  obtain ⟨hop, -, hY, hZ, hpq, hQ⟩ := byte_fields op
  simp only [mainTable, hx] at h
  split at h
  case h_1 hz =>
    cases h
    refine ⟨rfl, rfl, congrArg₂ List.cons (BitVec.eq_of_toNat_eq ?_) (by simp)⟩
    simp only [BitVec.toNat_ofNat, toNat_xyz, code_selCond] at *
    omega
  case h_2 hz =>
    split at h <;> cases h <;>
      refine ⟨rfl, rfl, congrArg₂ List.cons (BitVec.eq_of_toNat_eq ?_) (by simp)⟩ <;>
      simp only [BitVec.toNat_ofNat, toNat_xpqz, code_selRp2, imp_false] at * <;> omega
  case h_3 hz =>
    cases h
    refine ⟨rfl, rfl, congrArg₂ List.cons (BitVec.eq_of_toNat_eq ?_) (by simp)⟩
    simp only [BitVec.toNat_ofNat, toNat_xyz, code_selCond] at *
    omega
  case h_4 hz =>
    split at h <;> cases h <;>
      refine ⟨rfl, rfl, congrArg₂ List.cons (BitVec.eq_of_toNat_eq ?_) (by simp)⟩ <;>
      simp only [BitVec.toNat_ofNat,  imp_false] at * <;> omega
  case h_5 hz =>
    cases h
    refine ⟨rfl, rfl, congrArg₂ List.cons (BitVec.eq_of_toNat_eq ?_) (by simp)⟩
    simp only [BitVec.toNat_ofNat, toNat_xyz, code_selCond] at *
    omega
  case h_6 hz =>
    split at h <;> cases h <;>
      refine ⟨rfl, rfl, congrArg₂ List.cons (BitVec.eq_of_toNat_eq ?_) (by simp)⟩ <;>
      simp only [BitVec.toNat_ofNat, toNat_xpqz, code_selRp2, imp_false] at * <;> omega
  case h_7 hz =>
    cases h
    exact aluN_row b1 b2 b3 hx hz
  case h_8 =>
    cases h
    refine ⟨rfl, rfl, congrArg₂ List.cons (BitVec.eq_of_toNat_eq ?_) (by simp)⟩
    simp only [BitVec.toNat_ofNat, toNat_xyz, extract_y, imp_false] at *
    omega

theorem mainTable_row (h : mainTable op b1 b2 = some i) : IsRow 1 [op, b1, b2, b3] i := by
  obtain hx | hx | hx | hx := fieldX_cases op
  · exact mainTable_row_x0 h hx
  · exact mainTable_row_x1 h hx
  · exact mainTable_row_x2 h hx
  · exact mainTable_row_x3 h hx

/-- The CB table has a row for every byte (R99). -/
theorem cbTable_row {b2 b3 : Byte} : IsRow 2 [0xCB#8, op, b2, b3] (cbTable op) := by
  obtain ⟨-, -, -, hZ, -⟩ := byte_fields op
  have hb : fieldY op = (op.extractLsb' 3 3).toNat := (extract_y op).symm
  have hx := fieldX_cases op
  cases hr : selR8 (fieldZ op) with
  | none =>
    have hz : fieldZ op = 6 := (selR8_none hZ).mp hr
    obtain hx | hx | hx | hx := hx <;> simp only [cbTable, hx, hr]
    · exact rotAtHl_row b2 b3 hx hz
    all_goals exact ⟨rfl, rfl, congrArg (0xCB#8 :: · :: _) (eq_of_xyz hx hb hz)⟩
  | some r =>
    have hz := (code_selR8 hr).symm
    obtain hx | hx | hx | hx := hx <;> simp only [cbTable, hx, hr]
    · exact rotR_row b2 b3 hx hr
    all_goals exact ⟨rfl, rfl, congrArg (0xCB#8 :: · :: _) (eq_of_xyz hx hb hz)⟩

theorem extract_eq_iff {op : Byte} {k : BitVec 3} : op.extractLsb' 3 3 = k ↔ fieldY op = k.toNat := by
  rw [← extract_y op, BitVec.toNat_inj]

theorem edTable_row {b2 b3 : Byte} (h : edTable op b2 b3 = some i) : IsRow 2 [0xED#8, op, b2, b3] i := by
  obtain ⟨hop, -, hY, hZ, hpq, hQ⟩ := byte_fields op
  have hb : fieldY op = (op.extractLsb' 3 3).toNat := (extract_y op).symm
  unfold edTable at h
  split at h
  case h_1 hx =>
    split at h
    case h_1 hz =>
      split at h <;> cases h
      · next r hr => exact ⟨rfl, rfl, congrArg (0xED#8 :: · :: _) (eq_of_xyz hx (code_selR8 hr).symm hz)⟩
      · next hr => exact ⟨rfl, rfl, congrArg (0xED#8 :: · :: _) (eq_of_fields hx ((selR8_none hY).mp hr) hz)⟩
    case h_2 hz =>
      split at h <;> cases h
      · next r hr => exact ⟨rfl, rfl, congrArg (0xED#8 :: · :: _) (eq_of_xyz hx (code_selR8 hr).symm hz)⟩
      · next hr => exact ⟨rfl, rfl, congrArg (0xED#8 :: · :: _) (eq_of_fields hx ((selR8_none hY).mp hr) hz)⟩
    case h_3 hz =>
      split at h <;> cases h <;>
        refine ⟨rfl, rfl, congrArg (_ :: ·) (congrArg₂ List.cons (BitVec.eq_of_toNat_eq ?_) (by simp))⟩ <;>
        simp only [BitVec.toNat_ofNat, toNat_xpqz, code_selRp, imp_false] at * <;> omega
    case h_4 hz =>
      split at h <;> cases h <;>
        refine ⟨rfl, rfl, congrArg (_ :: ·) (congrArg₂ List.cons (BitVec.eq_of_toNat_eq ?_) (by simp))⟩ <;>
        simp only [BitVec.toNat_ofNat, toNat_xpqz, code_selRp, imp_false] at * <;> omega
    case h_5 hz =>
      split at h <;> cases h
      · next hy => exact ⟨rfl, rfl, congrArg (0xED#8 :: · :: _) (eq_of_fields hx hy hz)⟩
      · next h0 =>
        exact ⟨by simp [Instr.wellFormed, extract_eq_iff, imp_false.mp h0], rfl,
          congrArg (0xED#8 :: · :: _) (eq_of_xyz hx hb hz)⟩
    case h_6 hz =>
      split at h <;> cases h
      · next hy => exact ⟨rfl, rfl, congrArg (0xED#8 :: · :: _) (eq_of_fields hx hy hz)⟩
      · next hy => exact ⟨rfl, rfl, congrArg (0xED#8 :: · :: _) (eq_of_fields hx hy hz)⟩
      · next h0 h1 =>
        exact ⟨by simp [Instr.wellFormed, extract_eq_iff, imp_false.mp h0, imp_false.mp h1], rfl,
          congrArg (0xED#8 :: · :: _) (eq_of_xyz hx hb hz)⟩
    case h_7 hz =>
      split at h <;> cases h
      · next hy => exact ⟨rfl, rfl, congrArg (0xED#8 :: · :: _) (eq_of_fields hx hy hz)⟩
      · next hy => exact ⟨rfl, rfl, congrArg (0xED#8 :: · :: _) (eq_of_fields hx hy hz)⟩
      · next hy => exact ⟨rfl, rfl, congrArg (0xED#8 :: · :: _) (eq_of_fields hx hy hz)⟩
      · next h0 h2 h3 =>
        exact ⟨by simp [Instr.wellFormed, extract_eq_iff, imp_false.mp h0, imp_false.mp h2, imp_false.mp h3], rfl,
          congrArg (0xED#8 :: · :: _) (eq_of_xyz hx hb hz)⟩
    case h_8 =>
      split at h <;> cases h <;>
        refine ⟨rfl, rfl, congrArg (_ :: ·) (congrArg₂ List.cons (BitVec.eq_of_toNat_eq ?_) (by simp))⟩ <;>
        simp only [BitVec.toNat_ofNat, toNat_xpqz, extract_q, imp_false] at * <;> omega
  case h_2 hx =>
    split at h <;> cases h <;>
      refine ⟨rfl, rfl, congrArg (_ :: ·) (congrArg₂ List.cons (BitVec.eq_of_toNat_eq ?_) (by simp))⟩ <;>
      simp only [BitVec.toNat_ofNat] at * <;> omega
  case h_3 => cases h

/-- The quarter `x = 0` of the DD and FD tables. -/
theorem xyTable_row_x0 {x : Idx} {b2 b3 : Byte} (h : xyTable x op b2 b3 = some i) (hx : fieldX op = 0) :
    IsRow 2 [x.lead, op, b2, b3] i := by
  obtain ⟨hop, -, hY, hZ, hpq, hQ⟩ := byte_fields op
  simp only [xyTable, hx] at h
  split at h
  case h_1 hz =>
    split at h <;> cases h <;>
      refine ⟨rfl, rfl, congrArg (_ :: ·) (congrArg₂ List.cons (BitVec.eq_of_toNat_eq ?_) (by simp))⟩ <;>
      simp only [BitVec.toNat_ofNat, toNat_xpqz, code_selRpX, imp_false] at * <;> omega
  case h_7 => cases h
  all_goals
    split at h <;> cases h <;>
      refine ⟨rfl, rfl, congrArg (_ :: ·) (congrArg₂ List.cons (BitVec.eq_of_toNat_eq ?_) (by simp))⟩ <;>
      simp only [BitVec.toNat_ofNat] at * <;> omega

/-- The quarter `x = 1` of the DD and FD tables: `LD` with an index half or an indexed byte. -/
theorem xyTable_row_x1 {x : Idx} {b2 b3 : Byte} (h : xyTable x op b2 b3 = some i) (hx : fieldX op = 1) :
    IsRow 2 [x.lead, op, b2, b3] i := by
  obtain ⟨-, -, hY, hZ, -⟩ := byte_fields op
  simp only [xyTable, hx] at h
  split at h
  case h_1 p p' hp hp' =>
    split at h <;> cases h
    case h_1 hf hh =>
      exact ⟨rfl, rfl, congrArg (_ :: · :: _) (eq_of_xyz hx (code_selHalf hh).symm (code_selP8 hp').symm)⟩
    case h_2 hf hh hh' =>
      have hwf : p ≠ .xh ∧ p ≠ .xl := by
        have hcode := code_selP8 hp
        refine ⟨fun e => ?_, fun e => ?_⟩ <;>
        · subst e
          simp [← hcode, Reg8X.code, selHalf] at hh
      exact ⟨by simpa [Instr.wellFormed] using hwf, rfl,
        congrArg (_ :: · :: _) (eq_of_xyz hx (code_selP8 hp).symm (code_selHalf hh').symm)⟩
  case h_2 p hp hz =>
    obtain ⟨r, hr, rfl⟩ := Option.map_eq_some_iff.mp h
    exact ⟨rfl, rfl, congrArg (_ :: · :: _) (eq_of_xyz hx (code_selR8 hr).symm ((selP8_none hZ).mp hz))⟩
  case h_3 p hy hp =>
    obtain ⟨r, hr, rfl⟩ := Option.map_eq_some_iff.mp h
    exact ⟨rfl, rfl, congrArg (_ :: · :: _) (eq_of_xyz hx ((selP8_none hY).mp hy) (code_selR8 hr).symm)⟩
  case h_4 => cases h

theorem xyTable_row {x : Idx} {b2 b3 : Byte} (h : xyTable x op b2 b3 = some i) :
    IsRow 2 [x.lead, op, b2, b3] i := by
  obtain hx | hx | hx | hx := fieldX_cases op
  · exact xyTable_row_x0 h hx
  · exact xyTable_row_x1 h hx
  · simp only [xyTable, hx] at h
    split at h <;> cases h
    case h_1 hf hh => exact aluHalf_row b2 b3 hx hh
    case h_2 hh hz => exact aluAtXyd_row b2 b3 hx hz
  · simp only [xyTable, hx] at h
    split at h <;> cases h
    all_goals
      next hz hy => exact ⟨rfl, rfl, congrArg (_ :: · :: _) (eq_of_fields hx hy hz)⟩

/-- The DD CB and FD CB tables have a row for every byte (R102). -/
theorem xycbTable_row (x : Idx) (d op : Byte) :
    (xycbTable x d op).wellFormed = true ∧ (xycbTable x d op).format = .xycb ∧
      encode (xycbTable x d op) = [x.lead, 0xCB#8, d, op] := by
  obtain ⟨-, -, -, hZ, -⟩ := byte_fields op
  have hb : fieldY op = (op.extractLsb' 3 3).toNat := (extract_y op).symm
  have hx := fieldX_cases op
  cases hr : selR8 (fieldZ op) with
  | none =>
    have hz : fieldZ op = 6 := (selR8_none hZ).mp hr
    obtain hx | hx | hx | hx := hx <;> simp only [xycbTable, hx, hr]
    · exact rotAtXyd_row x d hx hz
    all_goals exact ⟨rfl, rfl, congrArg (fun c => [x.lead, 0xCB#8, d, c]) (eq_of_xyz hx hb hz)⟩
  | some r =>
    have hz := (code_selR8 hr).symm
    obtain hx | hx | hx | hx := hx <;> simp only [xycbTable, hx, hr]
    · exact rotAtXydR_row x d hx hr
    · have hne : op.extractLsb' 0 3 ≠ 6#3 := fun h => by
        have h6 : fieldZ op = 6 := by rw [← extract_z op, h]; rfl
        rw [h6] at hr
        cases hr
      exact ⟨by simpa [Instr.wellFormed] using hne, rfl,
        congrArg (fun c => [x.lead, 0xCB#8, d, c]) (eq_of_xyz hx hb (extract_z op).symm)⟩
    all_goals exact ⟨rfl, rfl, congrArg (fun c => [x.lead, 0xCB#8, d, c]) (eq_of_xyz hx hb hz)⟩

end

end Sys2Proof
end

section
/-! SUPPORT. The dispatcher's choice, whatever the classes (30_encoding.md R92, R103, R105), and what of it the opcode
bytes alone decide. -/

namespace Sys2Proof

/-! ## The format of a row is the opcode byte's -/

section

variable (op b1 b2 c1 c2 : Byte)

theorem mainTable_format : (mainTable op b1 b2).map Instr.format = (mainTable op c1 c2).map Instr.format := by
  obtain ⟨-, hX, hY, hZ, hpq, hQ⟩ := byte_fields op
  have hp : fieldP op = fieldY op / 2 := by omega
  have hq : fieldQ op = fieldY op % 2 := by omega
  simp only [mainTable, hp, hq]
  generalize fieldX op = x, fieldY op = y, fieldZ op = z at hX hY hZ
  interval_cases x <;> interval_cases z <;> interval_cases y <;> rfl

theorem edTable_format : (edTable op b1 b2).map Instr.format = (edTable op c1 c2).map Instr.format := by
  obtain ⟨-, hX, hY, hZ, hpq, hQ⟩ := byte_fields op
  have hp : fieldP op = fieldY op / 2 := by omega
  have hq : fieldQ op = fieldY op % 2 := by omega
  simp only [edTable, hp, hq]
  generalize fieldX op = x, fieldY op = y, fieldZ op = z at hX hY hZ
  interval_cases x <;> interval_cases z <;> interval_cases y <;> rfl

theorem xyTable_format (x : Idx) : (xyTable x op b1 b2).map Instr.format = (xyTable x op c1 c2).map Instr.format := by
  obtain ⟨-, hX, hY, hZ, hpq, hQ⟩ := byte_fields op
  have hp : fieldP op = fieldY op / 2 := by omega
  have hq : fieldQ op = fieldY op % 2 := by omega
  simp only [xyTable, hp, hq]
  generalize fieldX op = q, fieldY op = y, fieldZ op = z at hX hY hZ
  interval_cases q <;> interval_cases z <;> interval_cases y <;> rfl

end

/-- The four bytes that select another table (R92). -/
def isPrefix (b : Byte) : Prop := b = 0xCB#8 ∨ b = 0xED#8 ∨ b = 0xDD#8 ∨ b = 0xFD#8

theorem isNone_congr {a b : Option Instr} (h : a.map Instr.format = b.map Instr.format) : a = none ↔ b = none := by
  cases a <;> cases b <;> simp_all

/-- The main table has a row for every byte but the four prefixes (R98). -/
theorem mainTable_none {op b1 b2 : Byte} (h : mainTable op b1 b2 = none) : isPrefix op := by
  rw [isNone_congr (mainTable_format op b1 b2 0#8 0#8)] at h
  revert op
  unfold isPrefix
  decide +kernel

/-- The holes of the ED table (R104). -/
theorem edTable_none {op b2 b3 : Byte} :
    edTable op b2 b3 = none ↔
      op.toNat < 0x40 ∨ (0x80 ≤ op.toNat ∧ op.toNat ≤ 0x9F) ∨ (0xA4 ≤ op.toNat ∧ op.toNat ≤ 0xA7) ∨
        (0xAC ≤ op.toNat ∧ op.toNat ≤ 0xAF) ∨ (0xB4 ≤ op.toNat ∧ op.toNat ≤ 0xB7) ∨ 0xBC ≤ op.toNat := by
  rw [isNone_congr (edTable_format op b2 b3 0#8 0#8)]
  revert op
  decide +kernel

/-! ## The dispatcher by first byte -/

section

variable {m : Impl} {op b1 b2 b3 : Byte}

theorem decodeWith_main (h : ¬ isPrefix op) :
    ∃ i, mainTable op b1 b2 = some i ∧
      decodeWith m { b0 := op, b1 := b1, b2 := b2, b3 := b3 } = admitted m [op] i := by
  obtain ⟨hcb, hed, hdd, hfd⟩ : op ≠ 0xCB#8 ∧ op ≠ 0xED#8 ∧ op ≠ 0xDD#8 ∧ op ≠ 0xFD#8 := by
    simpa [isPrefix] using h
  cases hi : mainTable op b1 b2 with
  | none => exact absurd (mainTable_none hi) h
  | some i => exact ⟨i, rfl, by simp only [decodeWith, if_neg hcb, if_neg hed, if_neg hdd, if_neg hfd, hi]⟩

theorem decodeWith_cb :
    decodeWith m { b0 := 0xCB#8, b1 := op, b2 := b2, b3 := b3 } = admitted m [0xCB#8, op] (cbTable op) := by
  simp [decodeWith]

theorem decodeWith_ed :
    decodeWith m { b0 := 0xED#8, b1 := op, b2 := b2, b3 := b3 } =
      match edTable op b2 b3 with
      | some i => admitted m [0xED#8, op] i
      | none => .error (.edHole [0xED#8, op]) := by
  simp [decodeWith] <;> rfl

theorem decodeWith_lead (x : Idx) :
    decodeWith m { b0 := x.lead, b1 := op, b2 := b2, b3 := b3 } =
      decodeXy m x { b0 := x.lead, b1 := op, b2 := b2, b3 := b3 } := by
  cases x <;> simp [decodeWith, Idx.lead]

theorem isPrefix_cases (h : isPrefix op) : op = 0xCB#8 ∨ op = 0xED#8 ∨ ∃ x : Idx, op = x.lead := by
  obtain h | h | h | h := h
  · exact .inl h
  · exact .inr (.inl h)
  · exact .inr (.inr ⟨.ix, h⟩)
  · exact .inr (.inr ⟨.iy, h⟩)

end

/-- The window reads as the row of `i`, if its class is on. -/
structure Selects (w : Window) (i : Instr) : Prop where
  decodes : ∀ m, decodeWith m w = admitted m i.reportedBytes i
  wellFormed : i.wellFormed = true
  encoding : encode i = [w.b0, w.b1, w.b2, w.b3].take i.format.len

/-- The window reads as `i` after a DD or FD byte without effect, if those are on (R105). -/
def SelectsRedundant (w : Window) (i : Instr) : Prop :=
  ∀ m, decodeWith m w =
    if m.redundantPfx then .ok { instr := i, redundant := true } else .error (.redundantPfx [w.b0, w.b1])

/-- The window has no row (R104, R105). -/
def SelectsNothing (w : Window) : Prop :=
  ∃ err : DecodeError, err.bytes = [w.b0, w.b1] ∧ ∀ m, decodeWith m w = .error err

theorem IsRow.selects {n : Nat} {w : Window} {i : Instr} (h : IsRow n [w.b0, w.b1, w.b2, w.b3] i)
    (hn : n ≤ i.format.len) (hd : ∀ m, decodeWith m w = admitted m ([w.b0, w.b1, w.b2, w.b3].take n) i) :
    Selects w i := by
  obtain ⟨hop, hx⟩ := Prod.mk.inj h.opcodes
  refine ⟨fun m => ?_, h.wellFormed, h.encoding⟩
  have hreported : i.reportedBytes = (encode i).take i.opcodeFetches := by
    unfold Instr.reportedBytes
    split
    · next hf => simp [hf] at hx
    · rfl
  rw [hd, hreported, h.encoding, hop, List.take_take, min_eq_left hn]

theorem opcodeFetches_le_len (i : Instr) : i.opcodeFetches ≤ i.format.len := by
  unfold Instr.opcodeFetches
  cases i.format <;> decide

/-- What the dispatcher makes of four bytes: a row, a redundant prefix, or nothing. -/
theorem decodeWith_cases (w : Window) :
    (∃ i, Selects w i) ∨ (∃ i, SelectsRedundant w i) ∨ SelectsNothing w := by
  obtain ⟨b0, b1, b2, b3⟩ := w
  have row {n : Nat} {i : Instr} (h : IsRow n [b0, b1, b2, b3] i)
      (hd : ∀ m, decodeWith m ⟨b0, b1, b2, b3⟩ = admitted m ([b0, b1, b2, b3].take n) i) :
      ∃ i, Selects ⟨b0, b1, b2, b3⟩ i :=
    ⟨i, h.selects ((Prod.mk.inj h.opcodes).1 ▸ opcodeFetches_le_len i) hd⟩
  by_cases hp : isPrefix b0
  · obtain rfl | rfl | ⟨x, rfl⟩ := isPrefix_cases hp
    · exact .inl (row cbTable_row fun m => decodeWith_cb)
    · cases hi : edTable b1 b2 b3 with
      | some i => exact .inl (row (edTable_row hi) fun m => by rw [decodeWith_ed, hi]; rfl)
      | none => exact .inr (.inr ⟨.edHole [0xED#8, b1], rfl, fun m => by rw [decodeWith_ed, hi]⟩)
    · by_cases hcb : b1 = 0xCB#8
      · subst hcb
        obtain ⟨hwf, hf, he⟩ := xycbTable_row x b2 b3
        refine .inl ⟨xycbTable x b2 b3, fun m => ?_, hwf, by rw [he, hf]; rfl⟩
        have hreported : (xycbTable x b2 b3).reportedBytes = encode (xycbTable x b2 b3) := by
          simp [Instr.reportedBytes, hf]
        rw [decodeWith_lead, hreported, he]
        simp [decodeXy]
      · by_cases hp : b1 = 0xDD#8 ∨ b1 = 0xED#8 ∨ b1 = 0xFD#8
        · refine .inr (.inr ⟨.secondPfx [x.lead, b1], rfl, fun m => ?_⟩)
          rw [decodeWith_lead]
          simp [decodeXy, hcb, hp]
        · cases hi : xyTable x b1 b2 b3 with
          | some i =>
            refine .inl (row (xyTable_row hi) fun m => ?_)
            rw [decodeWith_lead]
            simp [decodeXy, hcb, hp, hi]
          | none =>
            cases hj : mainTable b1 b2 b3 with
            | some j =>
              refine .inr (.inl ⟨j, fun m => ?_⟩)
              rw [decodeWith_lead]
              simp [decodeXy, hcb, hp, hi, hj]
            | none =>
              refine .inr (.inr ⟨.secondPfx [x.lead, b1], rfl, fun m => ?_⟩)
              rw [decodeWith_lead]
              simp [decodeXy, hcb, hp, hi, hj]
  · obtain ⟨i, hi, -⟩ := decodeWith_main (m := Config.impl) (b1 := b1) (b2 := b2) (b3 := b3) hp
    refine .inl (row (mainTable_row hi) fun m => ?_)
    obtain ⟨i', hi', hd⟩ := decodeWith_main (m := m) (b1 := b1) (b2 := b2) (b3 := b3) hp
    rw [hi] at hi'
    cases hi'
    exact hd

end Sys2Proof
end

section
/-! SUPPORT. The obligations on the decoder: what decodes, what does not, and under which classes. -/

namespace Sys2Proof

section

variable {m : Impl} {w : Window} {i : Instr}

theorem admitted_ok {bs : List Byte} {k : Decoded} :
    admitted m bs i = .ok k ↔ m.has i.klass = true ∧ k = { instr := i, redundant := false } := by
  unfold admitted
  split <;> simp [*, eq_comm]

theorem admitted_off {bs : List Byte} (h : m.has i.klass = false) : admitted m bs i = .error (.classOff bs) := by
  simp [admitted, h]

theorem admitted_on {bs : List Byte} (h : m.has i.klass = true) :
    admitted m bs i = .ok { instr := i, redundant := false } := by
  simp [admitted, h]

theorem Selects.decode (h : Selects w i) : decode w = .ok { instr := i, redundant := false } := by
  rw [Sys2Proof.decode, h.decodes, admitted_impl]

theorem SelectsRedundant.decode (h : SelectsRedundant w i) : decode w = .error (.redundantPfx [w.b0, w.b1]) := by
  rw [Sys2Proof.decode, h]
  rfl

/-- Under the default classes only rows decode. -/
theorem selects_of_decode {k : Decoded} (h : Sys2Proof.decode w = .ok k) :
    Selects w k.instr ∧ k.redundant = false := by
  obtain ⟨i, hi⟩ | ⟨i, hi⟩ | ⟨err, -, hi⟩ := decodeWith_cases w
  · rw [hi.decode] at h
    cases h
    exact ⟨hi, rfl⟩
  · rw [hi.decode] at h
    cases h
  · rw [Sys2Proof.decode, hi] at h
    cases h

end

end Sys2Proof

namespace Sys2Proof.Machine

/-- Settles O5: what decodes is a row of a table, and a row is encoded by the bytes it was read from. -/
theorem encodeDecode : Obligations.EncodeDecode := by
  unfold Obligations.EncodeDecode
  intro w k h
  obtain ⟨hi, hr⟩ := selects_of_decode h
  refine ⟨hr, hi.wellFormed, impl_has_klass _, ?_⟩
  rw [hi.encoding, Decoded.len, hr]
  rfl

/-- A window that begins with an instruction's encoding reads as that instruction. -/
theorem decode_of_prefix {w : Window} {i : Instr} (hw : i.wellFormed = true)
    (h : encode i <+: [w.b0, w.b1, w.b2, w.b3]) : decode w = .ok { instr := i, redundant := false } := by
  obtain ⟨rest, hrest⟩ := h
  have hd := (reads_encode i hw).2 rest
  rwa [hrest] at hd

/-- Settles O7: a hole is a byte with no row in the ED table; a rejected window is one that selects no row. -/
theorem noHandler : Obligations.NoHandler := by
  unfold Obligations.NoHandler
  intro w
  refine ⟨fun h0 => ?hole, fun h0 h1 => ?second, ⟨fun ⟨err, herr⟩ i hw hpre => ?none, fun h => ?some⟩⟩
  case hole =>
    rw [← edTable_none (b2 := w.b2) (b3 := w.b3)]
    obtain ⟨b0, b1, b2, b3⟩ := w
    change b0 = 0xED#8 at h0
    subst h0
    rw [decode, decodeWith_ed]
    cases edTable b1 b2 b3 with
    | none => simp
    | some i => simp [admitted_impl]
  case second =>
    obtain ⟨x, hx⟩ : ∃ x : Idx, w.b0 = x.lead := h0.elim (⟨.ix, ·⟩) (⟨.iy, ·⟩)
    obtain ⟨b0, b1, b2, b3⟩ := w
    change b0 = x.lead at hx
    subst hx
    have hcb : b1 ≠ 0xCB#8 := by
      rintro rfl
      simp at h1
    rw [decode_lead, decodeXy, if_neg hcb, if_pos h1]
  case none =>
    rw [decode_of_prefix hw hpre] at herr
    cases herr
  case some =>
    cases hd : decode w with
    | error err => exact ⟨err, rfl⟩
    | ok k =>
      have hk := (selects_of_decode hd).1
      exact absurd (hk.encoding ▸ List.take_prefix _ _) (h _ hk.wellFormed)

/-- Settles O8: the dispatcher's choice does not look at the classes. -/
theorem implSelects : Obligations.ImplSelects := by
  unfold Obligations.ImplSelects
  refine ⟨fun m => ⟨rfl, rfl, rfl⟩, rfl, fun m m' w k h => ?_⟩
  obtain ⟨i, hi⟩ | ⟨i, hi⟩ | ⟨err, -, hi⟩ := decodeWith_cases w
  · rw [hi.decodes, admitted_ok] at h
    obtain ⟨hm, rfl⟩ := h
    exact ⟨hm, fun hm' => by rw [hi.decodes, admitted_on hm'],
      fun hm' => ⟨_, by rw [hi.decodes, admitted_off hm'], rfl⟩⟩
  · rw [hi] at h
    split at h <;> cases h
    next hm =>
      refine ⟨hm, fun hm' => ?_, fun hm' => ⟨.redundantPfx [w.b0, w.b1], ?_, rfl⟩⟩
      · have hon : m'.redundantPfx = true := hm'
        rw [hi, if_pos hon]
      · have hoff : m'.redundantPfx = false := hm'
        simp [hi m', hoff]
  · rw [hi] at h
    cases h

end Sys2Proof.Machine
end

section
/-! SUPPORT. The fetch of an instruction: its bytes, one after the other, and where they end (30_encoding.md R92, R106;
10_state.md R30). -/

namespace Sys2Proof.Machine

/-! ## Fetching some bytes -/

/-- R after one opcode or prefix byte (R30). -/
def bumpR (r : Byte) : Byte := (r &&& 0x80#8) ||| ((r + 1#8) &&& 0x7F#8)

/-- PC past `len` bytes, `n` of them opcode or prefix bytes. -/
def State.advance (s : State) (len n : Nat) : State :=
  (s.setPc (s.pc + BitVec.ofNat 16 len)).setR (bumpR^[n] s.r)

theorem writesCore_advance (len n : Nat) : WritesCore anyEffect (State.advance · len n) :=
  ⟨fun _ _ _ _ _ => rfl, fun _ => keeps_anyEffect _ _⟩

theorem State.advance_advance (s : State) (len n len' n' : Nat) :
    (s.advance len n).advance len' n' = s.advance (len + len') (n + n') := by
  simp [State.advance, State.ext_iff, BitVec.ofNat_add, BitVec.add_assoc, Nat.add_comm n n', Function.iterate_add_apply]

theorem readsFrom_append (bs bs' : List Byte) :
    ∀ a, readsFrom a (bs ++ bs') = readsFrom (a + BitVec.ofNat 16 bs.length) bs' ++ readsFrom a bs := by
  induction bs with
  | nil => simp [readsFrom]
  | cons b bs ih =>
    intro a
    have haddr : a + BitVec.ofNat 16 (bs.length + 1) = a + 1#16 + BitVec.ofNat 16 bs.length := by
      rw [BitVec.ofNat_add, BitVec.add_assoc, BitVec.add_comm 1#16]
    simp only [readsFrom, List.cons_append, List.length_cons, haddr, ih, List.append_assoc]

theorem byteAt_append_right (bs bs' : List Byte) (j : Nat) : byteAt (bs ++ bs') (bs.length + j) = byteAt bs' j := by
  induction bs with
  | nil => simp
  | cons b bs ih => simpa [Nat.add_right_comm, byteAt] using ih

theorem byteAt_append_left (bs' : List Byte) {bs : List Byte} :
    ∀ {j}, j < bs.length → byteAt (bs ++ bs') j = byteAt bs j := by
  induction bs with
  | nil => exact fun h => absurd h (Nat.not_lt_zero _)
  | cons b bs ih =>
    intro j hj
    cases j with
    | zero => rfl
    | succ j => exact ih (Nat.lt_of_succ_lt_succ hj)

/-- From `s` to `t` the bytes `bs` were fetched from PC on, `n` of them opcode or prefix bytes, and nothing else
happened. -/
structure Fetched (s : State) (bs : List Byte) (n : Nat) (t : State) : Prop where
  core : SameCore t (s.advance bs.length n)
  bus : t.bus = readsFrom s.pc bs ++ s.bus
  env : EnvStep s t
  quiet : s.Quiet → t.Quiet ∧ t.mem = s.mem ∧ ∀ j, j < bs.length → byteAt bs j = s.peek (s.pc + BitVec.ofNat 16 j)

theorem Fetched.pc {s t : State} {bs : List Byte} {n : Nat} (h : Fetched s bs n t) :
    t.pc = s.pc + BitVec.ofNat 16 bs.length := by
  have hcore := sameCore_iff.mp h.core
  have hpc : t.pc = (s.advance bs.length n).pc := by tauto
  rw [hpc]
  rfl

theorem Fetched.trans {s t u : State} {bs bs' : List Byte} {n n' : Nat} (h : Fetched s bs n t)
    (h' : Fetched t bs' n' u) : Fetched s (bs ++ bs') (n + n') u where
  core := by
    have hstep := h'.core.trans (SameCore.regs (writesCore_advance bs'.length n') h.core)
    rwa [State.advance_advance, ← List.length_append] at hstep
  bus := by rw [h'.bus, h.bus, h.pc, readsFrom_append, List.append_assoc]
  env := h.env.trans h'.env
  quiet hq := by
    obtain ⟨ht, hm, hb⟩ := h.quiet hq
    obtain ⟨hu, hm', hb'⟩ := h'.quiet ht
    refine ⟨hu, hm'.trans hm, fun j hj => ?_⟩
    by_cases hjl : j < bs.length
    · rw [byteAt_append_left _ hjl, hb j hjl]
    · obtain ⟨k, rfl⟩ := Nat.exists_eq_add_of_le (Nat.le_of_not_lt hjl)
      rw [byteAt_append_right, hb' k (by simpa using hj), State.peek_congr hm, h.pc, BitVec.ofNat_add, BitVec.add_assoc]

theorem State.fetchByte_envStep (s : State) (charge : Nat) : EnvStep s (s.fetchByte charge).2 := by
  have h : EnvStep s.react ((s.busRead s.pc).2.setPc (s.pc + 1#16)) := .of_eq rfl rfl
  have h' := ((State.react_envStep s).trans h).trans (State.tick_envStep _ charge)
  simpa [State.fetchByte] using h'

theorem fetched_fetchByte (s : State) (charge : Nat) : Fetched s [(s.fetchByte charge).1] 0 (s.fetchByte charge).2 where
  core := s.fetchByte_core charge
  bus := s.fetchByte_bus charge
  env := s.fetchByte_envStep charge
  quiet hq := by
    rw [State.fetchByte_quiet s charge hq]
    refine ⟨hq, rfl, fun j hj => ?_⟩
    obtain rfl : j = 0 := by simpa using hj
    simp

theorem fetched_fetchOp (s : State) : Fetched s [s.fetchOp.1] 1 s.fetchOp.2 where
  core := s.fetchOp_core
  bus := s.fetchOp_bus
  env := (s.fetchByte_envStep tFetchOp).trans (.of_eq rfl rfl)
  quiet hq := by
    have hbyte := (fetched_fetchByte s tFetchOp).quiet hq
    exact hbyte

theorem fetched_tick (s : State) (n : Nat) : Fetched s [] 0 (s.tick n) where
  core := by simp [sameCore_iff, State.advance]
  bus := by simp [readsFrom]
  env := s.tick_envStep n
  quiet hq := by
    rw [State.tick_quiet s n hq]
    exact ⟨hq, rfl, nofun⟩

theorem fetched_nil (s : State) : Fetched s [] 0 s where
  core := by simp [sameCore_iff, State.advance]
  bus := rfl
  env := .of_eq rfl rfl
  quiet hq := ⟨hq, rfl, nofun⟩

theorem fetched_fetchActs (l : List FetchAct) :
    ∀ s : State, Fetched s (s.fetchActs l).1 0 (s.fetchActs l).2 ∧ (s.fetchActs l).1.length = l.count .operand := by
  induction l with
  | nil => exact fun s => ⟨fetched_nil s, rfl⟩
  | cons a l ih =>
    intro s
    cases a with
    | operand =>
      obtain ⟨h, hlen⟩ := ih (s.fetchByte tMem).2
      exact ⟨(fetched_fetchByte s tMem).trans h, by simp [State.fetchActs, hlen]⟩
    | idle n =>
      obtain ⟨h, hlen⟩ := ih (s.tick n)
      exact ⟨(fetched_tick s n).trans h, by simp [State.fetchActs, hlen]⟩

/-- The operands of a format, beside its opcode bytes (R90). -/
theorem count_operandActs {i : Instr} (h : i.format ≠ .xycb) :
    i.opcodeFetches + (operandActs i).count .operand = i.format.len := by
  have hidle : (djnzIdle i).count .operand = 0 := by
    unfold djnzIdle
    split <;> rfl
  unfold operandActs Instr.opcodeFetches
  cases hf : i.format <;> simp_all [Format.len]

end Sys2Proof.Machine
end

section
/-! SUPPORT. What the opcode bytes decide: which row it is and how many operands follow; and so what a fetch fetches. -/

namespace Sys2Proof

/-- Two windows read as rows of one format with `n` opcode bytes, all of them before the operands. -/
def SameRow (n : Nat) (w w' : Window) : Prop :=
  ∃ i j : Instr, decode w = .ok { instr := i, redundant := false } ∧
    decode w' = .ok { instr := j, redundant := false } ∧ i.format = j.format ∧
    (j.opcodeFetches, j.format == .xycb) = (n, false)

/-- Neither of two windows has a handler, and the fault is one, with the two bytes `bs`. -/
def SameFault (bs : List Byte) (w w' : Window) : Prop :=
  ∃ err, decode w = .error err ∧ decode w' = .error err ∧ err.bytes = bs

section

variable {b0 b1 : Byte}

theorem map_format_cases {a b : Option Instr} (h : a.map Instr.format = b.map Instr.format) :
    (a = none ∧ b = none) ∨ ∃ i j, a = some i ∧ b = some j ∧ i.format = j.format := by
  cases a <;> cases b <;> simp_all

theorem decode_opcode (h : ¬ isPrefix b0) (b1 b2 b3 c1 c2 c3 : Byte) :
    SameRow 1 ⟨b0, b1, b2, b3⟩ ⟨b0, c1, c2, c3⟩ := by
  obtain ⟨i, hi, hd⟩ := decodeWith_main (m := Config.impl) (b1 := b1) (b2 := b2) (b3 := b3) h
  obtain ⟨j, hj, hd'⟩ := decodeWith_main (m := Config.impl) (b1 := c1) (b2 := c2) (b3 := c3) h
  have hf := mainTable_format b0 b1 b2 c1 c2
  rw [hi, hj] at hf
  exact ⟨i, j, hd.trans (admitted_impl _ _), hd'.trans (admitted_impl _ _), by simpa using hf,
    (mainTable_row (b3 := c3) hj).opcodes⟩

theorem decode_prefixed (h : isPrefix b0) (hcb : ¬ ((b0 = 0xDD#8 ∨ b0 = 0xFD#8) ∧ b1 = 0xCB#8))
    (b2 b3 c2 c3 : Byte) :
    SameRow 2 ⟨b0, b1, b2, b3⟩ ⟨b0, b1, c2, c3⟩ ∨ SameFault [b0, b1] ⟨b0, b1, b2, b3⟩ ⟨b0, b1, c2, c3⟩ := by
  obtain rfl | rfl | ⟨x, rfl⟩ := isPrefix_cases h
  · exact .inl ⟨_, _, decode_cb b1 b2 b3, decode_cb b1 c2 c3, rfl,
      (cbTable_row (b2 := b2) (b3 := b3)).opcodes⟩
  · obtain ⟨hi, hj⟩ | ⟨i, j, hi, hj, hf⟩ := map_format_cases (edTable_format b1 b2 b3 c2 c3)
    · refine .inr ⟨.edHole [0xED#8, b1], ?_, ?_, rfl⟩ <;> simp only [decode, decodeWith_ed, hi, hj]
    · exact .inl ⟨i, j, decode_ed hi, decode_ed hj, hf, (edTable_row hj).opcodes⟩
  · have hb1 : b1 ≠ 0xCB#8 := fun e => hcb ⟨by cases x <;> simp [Idx.lead], e⟩
    by_cases hp : b1 = 0xDD#8 ∨ b1 = 0xED#8 ∨ b1 = 0xFD#8
    · refine .inr ⟨.secondPfx [x.lead, b1], ?_, ?_, rfl⟩ <;> simp [decode_lead, decodeXy, hb1, hp]
    · obtain ⟨hi, hj⟩ | ⟨i, j, hi, hj, hf⟩ := map_format_cases (xyTable_format b1 b2 b3 c2 c3 x)
      · right
        obtain ⟨hi', hj'⟩ | ⟨i', j', hi', hj', -⟩ := map_format_cases (mainTable_format b1 b2 b3 c2 c3)
        · refine ⟨.secondPfx [x.lead, b1], ?_, ?_, rfl⟩ <;> simp [decode_lead, decodeXy, hb1, hp, hi, hj, hi', hj']
        · refine ⟨.redundantPfx [x.lead, b1], ?_, ?_, rfl⟩ <;>
            simp [decode_lead, decodeXy, hb1, hp, hi, hj, hi', hj', Config.impl]
      · refine .inl ⟨i, j, ?_, ?_, hf, (xyTable_row hj).opcodes⟩ <;>
          simp [decode_lead, decodeXy, hb1, hp, hi, hj, admitted_impl]

/-- Two opcode bytes are a row whatever follows them, or a fault whatever follows them. -/
theorem decode_prefixed_all (h : isPrefix b0) (hcb : ¬ ((b0 = 0xDD#8 ∨ b0 = 0xFD#8) ∧ b1 = 0xCB#8)) :
    (∀ ys, SameRow 2 (Window.ofList [b0, b1]) (Window.ofList ([b0, b1] ++ ys))) ∨
      ∀ ys, SameFault [b0, b1] (Window.ofList [b0, b1]) (Window.ofList ([b0, b1] ++ ys)) := by
  have hall (ys : List Byte) := decode_prefixed h hcb 0#8 0#8 (byteAt ys 0) (byteAt ys 1)
  cases hd : decode (Window.ofList [b0, b1]) with
  | ok k =>
    refine .inl fun ys => (hall ys).resolve_right fun ⟨err, herr, _⟩ => ?_
    cases hd.symm.trans herr
  | error err =>
    refine .inr fun ys => (hall ys).resolve_left fun ⟨i, j, hi, _⟩ => ?_
    cases hd.symm.trans hi

end

/-! ## The bytes of a window -/

theorem window_take : ∀ {bs : List Byte}, bs.length ≤ 4 →
    [(Window.ofList bs).b0, (Window.ofList bs).b1, (Window.ofList bs).b2, (Window.ofList bs).b3].take bs.length = bs
  | [], _ | [_], _ | [_, _], _ | [_, _, _], _ | [_, _, _, _], _ => rfl
  | _ :: _ :: _ :: _ :: _ :: bs, h => by
    simp only [List.length_cons] at h
    omega

theorem exists_append_of_byteAt : ∀ {l l' : List Byte}, l.length ≤ l'.length →
    (∀ j, j < l.length → byteAt l j = byteAt l' j) → ∃ rest, l' = l ++ rest
  | [], l', _, _ => ⟨l', rfl⟩
  | a :: l, [], h, _ => by simp at h
  | a :: l, b :: l', hlen, h => by
    obtain rfl : a = b := h 0 (by simp)
    obtain ⟨rest, rfl⟩ := exists_append_of_byteAt (l := l) (l' := l') (by simpa using hlen)
      fun j hj => h (j + 1) (by simpa using hj)
    exact ⟨rest, rfl⟩

end Sys2Proof

namespace Sys2Proof.Machine

/-! ## What a fetch fetches -/

/-- The bytes of a fetch are an instruction's, with `n` opcode bytes, or those of a decode fault. -/
def Complete (bs : List Byte) (n : Nat) : Prop :=
  (∃ i, decode (Window.ofList bs) = .ok { instr := i, redundant := false } ∧ bs.length = i.format.len ∧
    n = i.opcodeFetches) ∨
  ∃ err, (∀ ys, decode (Window.ofList (bs ++ ys)) = .error err) ∧ bs = err.bytes ∧ n = 2

theorem fetchOperands_row {s : State} {ops : List Byte} {n : Nat} (hlen : ops.length = n)
    (h : ∀ ys, SameRow n (Window.ofList ops) (Window.ofList (ops ++ ys))) :
    ∃ ys, (s.fetchOperands ops).1 = ops ++ ys ∧ Fetched s ys 0 (s.fetchOperands ops).2 ∧ Complete (ops ++ ys) n := by
  obtain ⟨i, -, hi, -⟩ := h []
  obtain ⟨hf, hcount⟩ := fetched_fetchActs (operandActs i) s
  have heq : s.fetchOperands ops =
      (ops ++ (s.fetchActs (operandActs i)).1, (s.fetchActs (operandActs i)).2) := by
    rw [State.fetchOperands, hi]
  refine ⟨(s.fetchActs (operandActs i)).1, by rw [heq], by rw [heq]; exact hf, .inl ?_⟩
  obtain ⟨i', j, hi', hj, hformat, hop⟩ := h (s.fetchActs (operandActs i)).1
  obtain rfl : i = i' := by
    rw [hi] at hi'
    cases hi'
    rfl
  obtain ⟨hn, hx⟩ := Prod.mk.inj hop
  have hopcodes : i.opcodeFetches = j.opcodeFetches := by rw [Instr.opcodeFetches, Instr.opcodeFetches, hformat]
  have hne : i.format ≠ .xycb := fun e => by simp [← hformat, e] at hx
  refine ⟨j, hj, ?_, hn.symm⟩
  rw [List.length_append, hcount, hlen, ← hformat, ← count_operandActs hne, hopcodes, hn]

theorem fetchOperands_fault {s : State} {ops : List Byte}
    (h : ∀ ys, SameFault ops (Window.ofList ops) (Window.ofList (ops ++ ys))) :
    s.fetchOperands ops = (ops, s) ∧ Complete ops 2 := by
  obtain ⟨err, herr, -, hbytes⟩ := h []
  refine ⟨by rw [State.fetchOperands, herr], .inr ⟨err, fun ys => ?_, hbytes.symm, rfl⟩⟩
  obtain ⟨err', herr', hys, -⟩ := h ys
  rw [herr] at herr'
  cases herr'
  exact hys

theorem State.fetch_main {s : State} (h : ¬ isPrefix s.fetchOp.1) :
    s.fetch = s.fetchOp.2.fetchOperands [s.fetchOp.1] := by
  have hp : ¬ (s.fetchOp.1 = 0xCB#8 ∨ s.fetchOp.1 = 0xED#8 ∨ s.fetchOp.1 = 0xDD#8 ∨ s.fetchOp.1 = 0xFD#8) := h
  simp only [State.fetch, if_neg hp]

section

variable {s : State} (h : isPrefix s.fetchOp.1)
include h

theorem State.fetch_prefixed
    (hcb : ¬ ((s.fetchOp.1 = 0xDD#8 ∨ s.fetchOp.1 = 0xFD#8) ∧ s.fetchOp.2.fetchOp.1 = 0xCB#8)) :
    s.fetch = s.fetchOp.2.fetchOp.2.fetchOperands [s.fetchOp.1, s.fetchOp.2.fetchOp.1] := by
  have hp : s.fetchOp.1 = 0xCB#8 ∨ s.fetchOp.1 = 0xED#8 ∨ s.fetchOp.1 = 0xDD#8 ∨ s.fetchOp.1 = 0xFD#8 := h
  simp only [State.fetch, if_pos hp, if_neg hcb]

theorem State.fetch_xycb
    (hcb : (s.fetchOp.1 = 0xDD#8 ∨ s.fetchOp.1 = 0xFD#8) ∧ s.fetchOp.2.fetchOp.1 = 0xCB#8) :
    s.fetch =
      let t := s.fetchOp.2.fetchOp.2
      ([s.fetchOp.1, s.fetchOp.2.fetchOp.1, (t.fetchByte tMem).1, ((t.fetchByte tMem).2.fetchByte tFinalByte).1],
        ((t.fetchByte tMem).2.fetchByte tFinalByte).2) := by
  have hp : s.fetchOp.1 = 0xCB#8 ∨ s.fetchOp.1 = 0xED#8 ∨ s.fetchOp.1 = 0xDD#8 ∨ s.fetchOp.1 = 0xFD#8 := h
  simp only [State.fetch, if_pos hp, if_pos hcb]

end

theorem complete_xycb {b0 b1 : Byte} (h : (b0 = 0xDD#8 ∨ b0 = 0xFD#8) ∧ b1 = 0xCB#8) (d op : Byte) :
    Complete [b0, b1, d, op] 2 := by
  obtain ⟨h0, rfl⟩ := h
  obtain ⟨x, rfl⟩ : ∃ x : Idx, b0 = x.lead := h0.elim (⟨.ix, ·⟩) (⟨.iy, ·⟩)
  obtain ⟨-, hf, -⟩ := xycbTable_row x d op
  refine .inl ⟨xycbTable x d op, decode_xycb x d op, by rw [hf]; rfl, ?_⟩
  rw [Instr.opcodeFetches, hf]

/-- A fetch fetches the bytes of an instruction, or those up to a decode fault. -/
theorem fetched_fetch (s : State) : ∃ n, Fetched s s.fetch.1 n s.fetch.2 ∧ Complete s.fetch.1 n := by
  have h0 := fetched_fetchOp s
  by_cases hp : isPrefix s.fetchOp.1
  · have h1 : Fetched s [s.fetchOp.1, s.fetchOp.2.fetchOp.1] 2 s.fetchOp.2.fetchOp.2 :=
      h0.trans (fetched_fetchOp s.fetchOp.2)
    by_cases hcb : (s.fetchOp.1 = 0xDD#8 ∨ s.fetchOp.1 = 0xFD#8) ∧ s.fetchOp.2.fetchOp.1 = 0xCB#8
    · rw [State.fetch_xycb hp hcb]
      exact ⟨2, (h1.trans (fetched_fetchByte _ tMem)).trans (fetched_fetchByte _ tFinalByte), complete_xycb hcb _ _⟩
    · rw [State.fetch_prefixed hp hcb]
      obtain hrows | hfaults := decode_prefixed_all hp hcb
      · obtain ⟨ys, hys, hf, hc⟩ := fetchOperands_row (s := s.fetchOp.2.fetchOp.2)
          (ops := [s.fetchOp.1, s.fetchOp.2.fetchOp.1]) rfl hrows
        rw [hys]
        exact ⟨2, h1.trans hf, hc⟩
      · obtain ⟨hfetch, hc⟩ := fetchOperands_fault (s := s.fetchOp.2.fetchOp.2) hfaults
        rw [hfetch]
        exact ⟨2, h1, hc⟩
  · rw [State.fetch_main hp]
    obtain ⟨ys, hys, hf, hc⟩ := fetchOperands_row (s := s.fetchOp.2) (ops := [s.fetchOp.1]) rfl
      fun ys => decode_opcode hp 0#8 0#8 0#8 (byteAt ys 0) (byteAt ys 1) (byteAt ys 2)
    rw [hys]
    exact ⟨1, h0.trans hf, hc⟩

/-! ## The obligations on the fetch and on faults -/

/-- R counted once or twice, all its low bits at once. -/
theorem bumpR_iterate (r : Byte) :
    bumpR^[1] r = (r &&& 0x80#8) ||| ((r + 1#8) &&& 0x7F#8) ∧
      bumpR^[2] r = (r &&& 0x80#8) ||| ((r + 2#8) &&& 0x7F#8) := by
  revert r
  decide +kernel

theorem opcodeFetches_cases (i : Instr) : i.opcodeFetches = 1 ∨ i.opcodeFetches = 2 := by
  unfold Instr.opcodeFetches
  cases i.format <;> simp

/-- Settles O11: byte by byte; the opcode bytes decide how many follow. -/
theorem fetchAdvances : Obligations.FetchAdvances := by
  unfold Obligations.FetchAdvances
  intro s bs t n
  obtain ⟨n', hf, hc⟩ := fetched_fetch s
  have hn : n = n' ∧ (n' = 1 ∨ n' = 2) ∧ (∀ k, decode (Window.ofList bs) = .ok k → bs.length = k.len) ∧
      ∀ err, decode (Window.ofList bs) = .error err → bs = err.bytes := by
    obtain ⟨i, hi, hlen, hn⟩ | ⟨err, herr, hbs, hn⟩ := hc
    · have hi' : decode (Window.ofList bs) = .ok { instr := i, redundant := false } := hi
      refine ⟨by simp only [n, hi', hn]; rfl, hn ▸ opcodeFetches_cases i, fun k hk => ?_, fun err herr => ?_⟩
      · rw [hi'] at hk
        cases hk
        exact hlen
      · rw [hi'] at herr
        cases herr
    · have herr' : decode (Window.ofList bs) = .error err := by simpa using herr []
      refine ⟨by simp only [n, herr', hn], .inr hn, fun k hk => ?_, fun err' h => ?_⟩
      · rw [herr'] at hk
        cases hk
      · rw [herr'] at h
        cases h
        exact hbs
  obtain ⟨rfl, hcases, hok, herr⟩ := hn
  refine ⟨?core, hf.bus, hf.env, hok, herr, fun hq => (hf.quiet hq).2⟩
  case core =>
    have hcore := hf.core
    obtain ⟨h1, h2⟩ := bumpR_iterate s.r
    obtain hn | hn := hcases <;> rw [hn] at hcore ⊢
    · rw [State.advance, h1] at hcore
      exact hcore
    · rw [State.advance, h2] at hcore
      exact hcore

/-- Settles O13: `exec` never faults, so a step stops only where the fetch finds no handler. -/
theorem stopsOnlyByDecodeFault : Obligations.StopsOnlyByDecodeFault := by
  unfold Obligations.StopsOnlyByDecodeFault
  intro s
  have hstep : (∃ t, step s = .next t) ∨ s.arrive.halted = false ∧
      ∃ err, decode (Window.ofList s.arrive.fetch.1) = .error err ∧
        step s = .fault (.decodeFault s.arrive.pc err.bytes s.arrive.fetch.2.trace) := by
    by_cases hh : s.arrive.halted = true
    · exact .inl ⟨_, step_of_halted hh⟩
    · rw [Bool.not_eq_true] at hh
      cases hd : decode (Window.ofList s.arrive.fetch.1) with
      | error err => exact .inr ⟨hh, err, rfl, step_of_error hh hd⟩
      | ok k =>
        obtain ⟨t, ht⟩ := exec_next k.instr s.arrive.fetch.2
        exact .inl ⟨_, step_of_ok hh hd ht⟩
  refine ⟨fun r hr => ?refused, fun f => ⟨fun h => ?fault, fun ⟨hh, err, hd, hf⟩ => hf ▸ step_of_error hh hd⟩,
    fun addr bytes record h => ?record⟩
  case refused =>
    obtain ⟨t, ht⟩ | ⟨-, err, -, herr⟩ := hstep
    · simp [ht] at hr
    · simp [herr] at hr
  case fault =>
    obtain ⟨t, ht⟩ | ⟨hh, err, hd, herr⟩ := hstep
    · simp [ht] at h
    · rw [herr] at h
      cases h
      exact ⟨hh, err, hd, rfl⟩
  case record =>
    obtain ⟨t, ht⟩ | ⟨hh, err, hd, herr⟩ := hstep
    · simp [ht] at h
    · rw [herr] at h
      cases h
      obtain ⟨n, hf, hc⟩ := fetched_fetch s.arrive
      have hbytes : s.arrive.fetch.1 = err.bytes := by
        obtain ⟨i, hi, -⟩ | ⟨err', herr', hbs, -⟩ := hc
        · rw [hd] at hi
          cases hi
        · have herr'' := herr' []
          rw [List.append_nil, hd] at herr''
          cases herr''
          exact hbs
      have hbus := hf.bus
      rwa [hbytes, State.bus_arrive] at hbus

theorem Format.len_le_four (f : Format) : f.len ≤ 4 := by
  cases f <;> decide

/-- The bytes a fetch reads are an instruction's encoding, or no instruction's encoding begins with them nor they
with it. -/
theorem Complete.eq_encode {bs : List Byte} {n : Nat} (h : Complete bs n) {i : Instr} (hw : i.wellFormed = true)
    (hpre : (∃ rest, bs = encode i ++ rest) ∨ ∃ rest, encode i = bs ++ rest) : bs = encode i := by
  have hreads := (reads_encode i hw).2
  obtain ⟨j, hj, hlen, -⟩ | ⟨err, herr, -⟩ := h
  · have hsel := (selects_of_decode hj).1
    have hbs : encode j = bs := by
      rw [hsel.encoding, ← hlen]
      exact window_take (hlen ▸ Format.len_le_four _)
    suffices hij : i = j by rw [hij, hbs]
    obtain ⟨rest, hrest⟩ | ⟨rest, hrest⟩ := hpre
    · have hd := hreads rest
      rw [← hrest, hj] at hd
      cases hd
      rfl
    · have hd := (reads_encode j hsel.wellFormed).2 rest
      have hd' := hreads []
      rw [hbs, ← hrest, ← List.append_nil (encode i), hd'] at hd
      cases hd
      rfl
  · obtain ⟨rest, hrest⟩ | ⟨rest, hrest⟩ := hpre
    · have hd := hreads rest
      have he := herr []
      rw [List.append_nil, hrest, hd] at he
      cases he
    · have hd := hreads []
      have he := herr rest
      rw [← hrest, ← List.append_nil (encode i), hd] at he
      cases he

/-- Settles O10: what the fetch reads and the instruction's bytes agree as far as both go, so they are equal. -/
theorem stepRunsEncoded : Obligations.StepRunsEncoded := by
  unfold Obligations.StepRunsEncoded
  intro s i hw hh
  refine ⟨fun hq hpeek => ?fetch, fun hfetch => ?run⟩
  case run =>
    have hd : decode (Window.ofList s.arrive.fetch.1) = .ok { instr := i, redundant := false } := by
      have h := (reads_encode i hw).2 []
      rwa [List.append_nil, ← hfetch] at h
    obtain ⟨t, ht⟩ := exec_next i s.arrive.fetch.2
    exact ⟨t, ht, step_of_ok hh hd ht⟩
  case fetch =>
    obtain ⟨n, hf, hc⟩ := fetched_fetch s.arrive
    obtain ⟨-, -, hbytes⟩ := hf.quiet ((State.arrive_inside s).trans hq)
    refine hc.eq_encode hw ?_
    rcases Nat.le_total (encode i).length s.arrive.fetch.1.length with hle | hle
    · exact .inl (exists_append_of_byteAt hle fun j hj =>
        (hpeek j hj).symm.trans (hbytes j (Nat.lt_of_lt_of_le hj hle)).symm)
    · exact .inr (exists_append_of_byteAt hle fun j hj =>
        (hbytes j hj).trans (hpeek j (Nat.lt_of_lt_of_le hj hle)))

end Sys2Proof.Machine
end

section
/-! SUPPORT. The services and the boundary in a quiet environment (60_exceptions.md R410 to R414, R421). Every handler
is entered the same way, so each service is the rule for `State.enterAt` and the write of PC and WZ after it. -/

namespace Sys2Proof.Machine

/-! ## Entering a handler in a quiet environment -/

/-- What a service writes before its charge. -/
def State.leaveHalt (s : State) (iff1 iff2 : Bool) : State :=
  (((s.setHalted false).incR.setIff1 iff1).setIff2 iff2)

/-- The registers once a handler is entered, PC and WZ aside. -/
def State.entered (s : State) (iff1 iff2 : Bool) : State := (s.leaveHalt iff1 iff2).setSp (s.sp - 2#16)

@[simp] theorem State.leaveHalt_inside (s : State) (b b' : Bool) : (s.leaveHalt b b').inside = s.inside := by
  simp [State.leaveHalt, State.incR]

@[simp] theorem State.leaveHalt_sp (s : State) (b b' : Bool) : (s.leaveHalt b b').sp = s.sp := by
  simp [State.leaveHalt, State.incR]

@[simp] theorem State.leaveHalt_mem (s : State) (b b' : Bool) : (s.leaveHalt b b').mem = s.mem := by
  simp [State.leaveHalt, State.incR]

@[simp] theorem State.entered_inside (s : State) (b b' : Bool) : (s.entered b b').inside = s.inside := by
  simp [State.entered]

/-- A handler at a fixed address. -/
def State.handlerAt (s : State) (b b' : Bool) (v : Word) : State := ((s.entered b b').setPc v).setWz v

theorem State.handlerAt_eq (s : State) (b b' : Bool) (v : Word) :
    s.handlerAt b b' v =
      { s with
        halted := false, r := (s.r &&& 0x80#8) ||| ((s.r + 1#8) &&& 0x7F#8), iff1 := b, iff2 := b'
        sp := s.sp - 2#16, pc := v, wz := v } := by
  simp only [State.handlerAt, State.entered, State.leaveHalt, State.setHalted, State.incR, State.setR,
    State.setIff1, State.setIff2, State.setSp, State.setPc, State.setWz]

theorem State.poked16_congr {s t : State} (h : t.mem = s.mem) (a v : Word) : t.poked16 a v = s.poked16 a v := by
  funext b
  simp only [State.poked16, State.peek_congr h]

section

variable (s : State) (b b' : Bool) (n : Nat)

theorem State.enterAt_eq_push16 : s.enterAt b b' n s.sp s.pc = ((s.leaveHalt b b').tick n).push16 s.pc := by
  rw [State.enterAt, State.push16_eq_pushAt, State.tick_sp]
  rfl

variable (hq : s.inside = [])
include hq

/-- After a charge, which is on the record only, a push. -/
theorem State.tick_push16_sameRegs (v : Word) : SameRegs ((s.tick n).push16 v) (s.setSp (s.sp - 2#16)) := by
  rw [State.tick_quiet s n hq]
  exact (State.push16_sameRegs (s.emit (.tick n)) v hq).trans rfl

theorem State.tick_push16_peek (v : Word) (hc : s.Canonical) (a : Word) :
    ((s.tick n).push16 v).peek a = s.poked16 (s.sp - 2#16) v a := by
  rw [State.tick_quiet s n hq]
  exact State.push16_peek (s.emit (.tick n)) v hq hc a

theorem State.enterAt_sameRegs : SameRegs (s.enterAt b b' n s.sp s.pc) (s.entered b b') := by
  have hleave : (s.leaveHalt b b').inside = [] := by simpa using hq
  have hregs := State.tick_push16_sameRegs (s.leaveHalt b b') n hleave s.pc
  rw [State.leaveHalt_sp] at hregs
  rw [State.enterAt_eq_push16]
  exact hregs

theorem State.enterAt_peek (hc : s.Canonical) (a : Word) :
    (s.enterAt b b' n s.sp s.pc).peek a = s.poked16 (s.sp - 2#16) s.pc a := by
  have hleave : (s.leaveHalt b b').inside = [] := by simpa using hq
  have hcanonical : (s.leaveHalt b b').Canonical := State.canonical_congr (s.leaveHalt_mem b b') hc
  rw [State.enterAt_eq_push16, State.tick_push16_peek _ n hleave s.pc hcanonical a, State.leaveHalt_sp,
    State.poked16_congr (s.leaveHalt_mem b b')]

theorem State.enterFixed_sameRegs (v : Word) :
    SameRegs (((s.enterAt b b' n s.sp s.pc).setPc v).setWz v) (s.handlerAt b b' v) :=
  ((s.enterAt_sameRegs b b' n hq).setPc v).setWz v

end

/-! ## The services -/

/-- A handler entered at a fixed address: PC pushed, the registers as `State.handlerAt` says. -/
theorem yields_enterFixed (t : State) (b b' : Bool) (n : Nat) (v : Word) (hq : t.Quiet) (hc : t.Canonical) :
    Yields (fun t => ((t.enterAt b b' n t.sp t.pc).setPc v).setWz v) t (t.handlerAt b b' v)
      (t.poked16 (t.sp - 2#16) t.pc) [.memWrite (t.sp - 1#16) (hi8 t.pc), .memWrite (t.sp - 2#16) (lo8 t.pc)] :=
  ⟨t.enterFixed_sameRegs b b' n hq v, t.enterAt_peek b b' n hq hc, t.enterAt_bus b b' n t.sp t.pc⟩

/-- The state a non-maskable service starts from: the delay and its request bits cleared. -/
def State.acceptNmi (s : State) : State :=
  { s with irqDelay := false, req := { s.req with nmiDebug := false, nmiOther := false } }

theorem State.boundary_eq_acceptNmi {s : State} (hr : s.req.reset = false)
    (hn : s.req.nmiDebug = true ∨ s.req.nmiOther = true) :
    s.boundary =
      (((s.acceptNmi.enterAt false s.acceptNmi.iff1 5 s.acceptNmi.sp s.acceptNmi.pc).setPc Config.nmiVector).setWz
        Config.nmiVector).addEvents (if s.req.nmiDebug then [.debugNmiActivated] else []) := by
  rw [State.boundary_of_nmi hr hn, State.serviceNmi_eq]
  rfl

section

variable {s : State} (hq : s.Quiet)
include hq

/-- Non-maskable service: the handler at the fixed vector, and the debug event last. -/
theorem yields_nmi (hc : s.Canonical) (hr : s.req.reset = false)
    (hn : s.req.nmiDebug = true ∨ s.req.nmiOther = true) :
    Yields State.boundary s (s.acceptNmi.handlerAt false s.iff1 Config.nmiVector) (s.poked16 (s.sp - 2#16) s.pc)
      ([.memWrite (s.sp - 1#16) (hi8 s.pc), .memWrite (s.sp - 2#16) (lo8 s.pc)] ++
        if s.req.nmiDebug then [.debugNmiActivated] else []) := by
  obtain ⟨hregs, hpeek, hbus⟩ := yields_enterFixed s.acceptNmi false s.iff1 5 Config.nmiVector hq hc
  rw [Yields, State.boundary_eq_acceptNmi hr hn]
  refine ⟨hregs, hpeek, ?bus⟩
  case bus =>
    rw [State.bus_addEvents]
    cases hd : s.req.nmiDebug
    · exact hbus
    · exact congrArg (BusOp.debugNmiActivated :: ·) hbus

variable (hc : s.Canonical) (hr : s.req.reset = false) (hd : s.req.nmiDebug = false) (ho : s.req.nmiOther = false)
  (ha : s.acceptsIrq)
include hr hd ho ha

omit hq in
theorem State.boundary_eq_serviceIrq : s.boundary = s.serviceIrq := by
  have hdelay : s.setIrqDelay false = s := congrArg s.setIrqDelay ha.2.2.symm
  rw [State.boundary_of_irq hr hd ho ha, hdelay]

include hc

/-- Maskable service in modes 0 and 1: the handler at the fixed vector. -/
theorem yields_irq_fixed (him : s.im ≠ .im2) :
    Yields State.boundary s (s.handlerAt false false Config.irqVector)
      (s.poked16 (s.sp - 2#16) s.pc) [.memWrite (s.sp - 1#16) (hi8 s.pc), .memWrite (s.sp - 2#16) (lo8 s.pc)] := by
  rw [Yields, State.boundary_eq_serviceIrq hr hd ho ha, State.serviceIrq_fixed him]
  exact yields_enterFixed s false false 7 Config.irqVector hq hc

/-- Maskable service in mode 2: the handler at the word read, after the pushes, from the vector's address. -/
theorem yields_irq_vectored (him : s.im = .im2) (m : Word → Byte) (v : Word)
    (hm : m = s.poked16 (s.sp - 2#16) s.pc) (hv : v = join16 s.i Config.im2Low) :
    Yields State.boundary s (s.handlerAt false false (join16 (m (v + 1#16)) (m v))) m
      [.memWrite (s.sp - 1#16) (hi8 s.pc), .memWrite (s.sp - 2#16) (lo8 s.pc), .memRead v (m v),
        .memRead (v + 1#16) (m (v + 1#16))] := by
  have hregs := s.enterAt_sameRegs false false 7 hq
  have hpeek := s.enterAt_peek false false 7 hq hc
  have hpushes := s.enterAt_bus false false 7 s.sp s.pc
  have hmode : (s.enterAt false false 7 s.sp s.pc).im = .im2 := by rw [State.enterAt_im, him]
  have hi : (s.enterAt false false 7 s.sp s.pc).i = s.i := State.enterAt_i ..
  rw [Yields, State.boundary_eq_serviceIrq hr hd ho ha, State.serviceIrq_eq]
  generalize s.enterAt false false 7 s.sp s.pc = t at hregs hpeek hpushes hmode hi
  have htarget : t.irqTarget = t.memRead16 v := by
    rw [State.irqTarget, hmode, hv, ← hi]
    rfl
  have hentered : (s.entered false false).inside = [] := (s.entered_inside false false).trans hq
  have hquiet : t.inside = [] := hregs.inside_nil hentered
  have hread : SameRegs (t.memRead16 v).2 (s.entered false false) := 
    (hregs.memRead hentered v).memRead hentered (v + 1#16)
  have hword : (t.memRead16 v).1 = join16 (m (v + 1#16)) (m v) := by
    rw [State.memRead16_eq_quiet t v hquiet, State.peek16, hpeek, hpeek, hm]
  have hmem : ∀ a, (t.memRead16 v).2.peek a = m a := by
    intro a
    rw [State.memRead16_eq_quiet t v hquiet, hm]
    exact hpeek a
  have hbus := State.memRead16_bus_quiet t v hquiet
  rw [hpeek, hpeek, hpushes, ← hm] at hbus
  rw [htarget, hword]
  exact ⟨(hread.setPc _).setWz _, hmem, hbus⟩

/-- Maskable service in every mode: PC pushed and the handler entered, wherever it is. -/
theorem yields_irq : ∃ v ops,
    Yields State.boundary s (s.handlerAt false false v) (s.poked16 (s.sp - 2#16) s.pc) ops := by
  by_cases him : s.im = .im2
  · exact ⟨_, _, yields_irq_vectored hq hc hr hd ho ha him _ _ rfl rfl⟩
  · exact ⟨_, _, yields_irq_fixed hq hc hr hd ho ha him⟩

end

/-- Reset service: the registers cleared, and a charge. -/
theorem yields_reset {s : State} (hq : s.Quiet) (hr : s.req.reset = true) :
    Yields State.boundary s (s.resetRegs.setReq Req.empty) s.peek [] := by
  have hboundary : s.boundary = (s.resetRegs.setReq Req.empty).tick 3 := by
    rw [State.boundary_of_reset hr]
    rfl
  have hq' : (s.resetRegs.setReq Req.empty).inside = [] := by
    simp only [State.resetRegs, State.setReq_inside, State.setIrqDelay_inside, State.setHalted_inside,
      State.setIm_inside, State.setR_inside, State.setI_inside, State.setPc_inside, State.setIff2_inside,
      State.setIff1_inside]
    exact hq
  rw [State.tick_quiet _ 3 hq'] at hboundary
  rw [Yields, hboundary]
  refine ⟨rfl, State.peek_congr ?mem, ?bus⟩
  case mem => simp [State.resetRegs]
  case bus => simp [State.resetRegs]

/-- Settles O18: the handler is entered with IFF2 from IFF1, at the fixed vector. -/
theorem nmiService : Obligations.NmiService := by
  unfold Obligations.NmiService
  intro s hq hc hr hn
  have hservice := yields_nmi hq hc hr hn
  rw [State.handlerAt_eq] at hservice
  exact hservice

/-- Settles O19: the handler is entered with both flip-flops cleared; the mode decides where it is. -/
theorem irqService : Obligations.IrqService := by
  unfold Obligations.IrqService
  intro s hq hc hr hd ho hreq hi hdelay
  simp only [← State.handlerAt_eq]
  exact ⟨yields_irq_fixed hq hc hr hd ho ⟨hreq, hi, hdelay⟩,
    fun him => yields_irq_vectored hq hc hr hd ho ⟨hreq, hi, hdelay⟩ him _ _ rfl rfl⟩

/-- Settles O20: the registers cleared and one charge. -/
theorem resetService : Obligations.ResetService := by
  unfold Obligations.ResetService
  intro s hq hr
  have hservice := yields_reset hq hr
  simp only [State.resetRegs, State.setIff1, State.setIff2, State.setPc, State.setI, State.setR, State.setIm,
    State.setHalted, State.setIrqDelay, State.setReq] at hservice
  exact hservice

end Sys2Proof.Machine
end

section
/-! SUPPORT. The boundary in any environment: the registers it leaves, the priority of its requests, the shadow of EI
(70_reset_and_hazards.md R461), and the return from a handler (60_exceptions.md R414). -/

namespace Sys2Proof.Machine

/-! ## The registers a service leaves, in any environment -/

section

variable (s : State)

theorem State.enterAt_core (b b' : Bool) (n : Nat) : SameCore (s.enterAt b b' n s.sp s.pc) (s.entered b b') := by
  have hpush (t : State) (v : Word) : SameCore ((t.tick n).push16 v) (t.setSp (t.sp - 2#16)) := by
    simp [sameCore_iff, sub_one_sub_one]
  have hcore := hpush (s.leaveHalt b b') s.pc
  rw [State.leaveHalt_sp] at hcore
  rw [State.enterAt_eq_push16]
  exact hcore

theorem State.enterFixed_core (b b' : Bool) (n : Nat) (v : Word) :
    SameCore (((s.enterAt b b' n s.sp s.pc).setPc v).setWz v) (s.handlerAt b b' v) :=
  SameCore.regs (writesCore_popPc (W := anyEffect) rfl v) (s.enterAt_core b b' n)

theorem State.irqTarget_core : SameCore s.irqTarget.2 s := by
  unfold State.irqTarget
  cases s.im with
  | im0 | im1 => rfl
  | im2 => exact State.memRead16_core s _

theorem State.irqTarget_envStep : EnvStep s s.irqTarget.2 := by
  unfold State.irqTarget
  cases s.im with
  | im0 | im1 => exact .of_eq rfl rfl
  | im2 => exact State.memRead16_envStep s _

theorem State.irqTarget_fst (h : s.im ≠ .im2) : s.irqTarget.1 = Config.irqVector := by
  unfold State.irqTarget
  cases hs : s.im with
  | im0 | im1 => rfl
  | im2 => exact absurd hs h

/-- Maskable service: the address of the handler aside, its registers are those of every service. -/
theorem State.serviceIrq_core : ∃ v, SameCore s.serviceIrq (s.handlerAt false false v) ∧
    (s.im ≠ .im2 → v = Config.irqVector) := by
  refine ⟨(s.enterAt false false 7 s.sp s.pc).irqTarget.1, ?core, fun him => ?vector⟩
  case core =>
    rw [State.serviceIrq_eq]
    exact SameCore.regs (writesCore_popPc (W := anyEffect) rfl _)
      ((State.irqTarget_core _).trans (s.enterAt_core false false 7))
  case vector => exact State.irqTarget_fst _ (by rwa [State.enterAt_im])

theorem State.serviceIrq_envStep : EnvStep s s.serviceIrq := by
  rw [State.serviceIrq_eq]
  exact (((tail_enterAt false false 7 s.sp s.pc).envStep s).trans (State.irqTarget_envStep _)).trans (.of_eq rfl rfl)

end

/-! ## Priority -/

/-- The request bits a non-maskable service does not look at can be written before or after it. -/
theorem State.enterAt_setReq (s : State) (b b' : Bool) (n : Nat) (sp pc : Word) (r : Req) (hq : s.inside = []) :
    (s.setReq r).enterAt b b' n sp pc = (s.enterAt b b' n sp pc).setReq r := by
  ext1 <;> simp [State.enterAt, State.pushAt, State.tick_quiet, State.memWrite_quiet, State.incR, hq]

/-- The state with other maskable request bits and another delay. -/
def State.withIrq (s : State) (a b d : Bool) : State :=
  { s with req := { s.req with irqA := a, irqB := b }, irqDelay := d }

/-- What a non-maskable service does after the pushes, and its request bits written before or after it. -/
theorem State.leaveAt_setReq (t : State) (v : Word) (ops : List BusOp) (r : Req) :
    (((t.setReq r).setPc v).setWz v).addEvents ops = (((t.setPc v).setWz v).addEvents ops).setReq r :=
  rfl

theorem State.boundary_withIrq {s : State} (hq : s.Quiet) (hr : s.req.reset = false)
    (hn : s.req.nmiDebug = true ∨ s.req.nmiOther = true) (a b d : Bool) :
    (s.withIrq a b d).boundary = s.boundary.setReq { s.boundary.req with irqA := a, irqB := b } := by
  have haccept : (s.withIrq a b d).acceptNmi = s.acceptNmi.setReq { s.acceptNmi.req with irqA := a, irqB := b } := rfl
  have hcommutes := s.acceptNmi.enterAt_setReq false s.acceptNmi.iff1 5 s.acceptNmi.sp
    s.acceptNmi.pc { s.acceptNmi.req with irqA := a, irqB := b } hq
  have hreq : s.boundary.req = s.acceptNmi.req := by
    rw [State.boundary_eq_acceptNmi hr hn]
    exact ((tail_enterFixed false s.iff1 5 s.sp s.pc Config.nmiVector).envStep s.acceptNmi).quiet hq
  rw [hreq, State.boundary_eq_acceptNmi hr hn, State.boundary_eq_acceptNmi (s := s.withIrq a b d) hr hn, haccept,
    ← State.leaveAt_setReq]
  simp only [State.setReq_iff1, State.setReq_sp, State.setReq_pc, hcommutes]
  rfl

section

variable {t u : State} (h : SameCore t u)
include h

theorem SameCore.pc : t.pc = u.pc := by rw [SameCore] at h; rw [← h]
theorem SameCore.sp : t.sp = u.sp := by rw [SameCore] at h; rw [← h]
theorem SameCore.iff1 : t.iff1 = u.iff1 := by rw [SameCore] at h; rw [← h]
theorem SameCore.iff2 : t.iff2 = u.iff2 := by rw [SameCore] at h; rw [← h]
theorem SameCore.irqDelay : t.irqDelay = u.irqDelay := by rw [SameCore] at h; rw [← h]
theorem SameCore.halted : t.halted = u.halted := by rw [SameCore] at h; rw [← h]

end

theorem State.boundary_irqDelay (s : State) : s.boundary.irqDelay = false := by
  have hhandler (t : State) (b b' : Bool) (v : Word) : (t.handlerAt b b' v).irqDelay = t.irqDelay := by
    rw [State.handlerAt_eq]
  obtain ⟨-, h⟩ | ⟨hr, hn, -⟩ | ⟨-, -, -, h⟩ | ⟨-, -, -, h⟩ := s.boundary_cases
  · rw [h]
    simp [State.serviceReset]
  · rw [State.boundary_eq_acceptNmi hr (by simpa using hn)]
    exact (s.acceptNmi.enterFixed_core _ _ _ Config.nmiVector).irqDelay.trans (hhandler ..)
  · obtain ⟨v, hcore, -⟩ := (s.setIrqDelay false).serviceIrq_core
    rw [h]
    exact hcore.irqDelay.trans (hhandler ..)
  · rw [h]
    rfl

/-- Settles O21: each case of a boundary clears the delay; a non-maskable service does not look at the other
requests. -/
theorem boundaryPriority : Obligations.BoundaryPriority := by
  unfold Obligations.BoundaryPriority
  refine fun s => ⟨s.boundary_irqDelay, fun hr hd ho h => State.boundary_of_none hr hd ho ?none,
    fun hq hr hn a b d => State.boundary_withIrq hq hr hn a b d⟩
  case none =>
    rintro ⟨hreq, hi, hdelay⟩
    simp_all

/-! ## The shadow of EI -/

/-- The boundary after EI consumes the delay and does nothing else, as long as no reset or non-maskable request is
there. -/
theorem boundary_after_ei {s : State} (hr : s.req.reset = false) (hn : s.req.nmiDebug = false)
    (ho : s.req.nmiOther = false) :
    (((s.setIff1 true).setIff2 true).setIrqDelay true).boundary =
      ((s.setIff1 true).setIff2 true).setIrqDelay false :=
  State.boundary_of_none (s := ((s.setIff1 true).setIff2 true).setIrqDelay true) hr hn ho
    fun ⟨_, _, hdelay⟩ => nomatch hdelay

/-- The boundary that services a maskable request, in any environment. -/
theorem boundary_irq {s : State} (hr : s.req.reset = false) (hn : s.req.nmiDebug = false) (ho : s.req.nmiOther = false)
    (ha : s.acceptsIrq) :
    s.boundary.iff1 = false ∧ s.boundary.iff2 = false ∧ s.boundary.sp = s.sp - 2#16 ∧ s.boundary.halted = false ∧
      EnvStep s s.boundary ∧ (s.im ≠ .im2 → s.boundary.pc = Config.irqVector) := by
  obtain ⟨v, hcore, hv⟩ := s.serviceIrq_core
  rw [State.handlerAt_eq] at hcore
  rw [State.boundary_eq_serviceIrq hr hn ho ha]
  exact ⟨hcore.iff1, hcore.iff2, hcore.sp, hcore.halted, s.serviceIrq_envStep, fun him => hcore.pc.trans (hv him)⟩

/-- Settles O22: EI sets the delay, which its boundary consumes; another instruction leaves it clear, and then the
boundary services the request. -/
theorem eiShadow : Obligations.EiShadow := by
  unfold Obligations.EiShadow
  intro s hh bs s'
  obtain ⟨hcore, -, -, hlen, -, -⟩ := fetchAdvances s.arrive
  refine ⟨fun hd hr hn ho => ?ei, fun k t hd hk hdelay ht hi hr hn ho hreq => ?other⟩
  case ei =>
    have hpc : s'.pc = s.arrive.pc + BitVec.ofNat 16 bs.length := hcore.pc
    have hone : bs.length = 1 := hlen _ hd
    have hsp : s'.sp = s.arrive.sp := hcore.sp
    have hexec : exec .ei s' = .next (((s'.setIff1 true).setIff2 true).setIrqDelay true) := rfl
    have hboundary := boundary_after_ei hr hn ho
    exact ⟨_, step_of_ok hh hd hexec, by simp [hboundary, hpc, hone], by simp [hboundary, hsp], by simp [hboundary],
      by simp [hboundary], by simp [hboundary], by simp [hboundary]⟩
  case other =>
    have hdelay' : t.irqDelay = false :=
      ((exec_keeps ht).irqDelay (not_allowed eq_of_allowed_irqDelay hk)).trans (hcore.irqDelay.trans hdelay)
    exact ⟨_, step_of_ok hh hd ht, boundary_irq hr hn ho ⟨hreq, hi, hdelay'⟩⟩

/-! ## Leaving a handler -/

/-- In a quiet environment the word at SP goes to PC and WZ, and IFF2 to IFF1. -/
theorem State.returnFromHandler_quiet {s : State} (hq : s.inside = []) :
    s.returnFromHandler = { s with sp := s.sp + 2#16, pc := s.peek16 s.sp, wz := s.peek16 s.sp, iff1 := s.iff2,
                                   trace := (s.memRead16 s.sp).2.trace } := by
  rw [State.returnFromHandler, State.pop16_eq_quiet s hq]
  rfl

theorem completes_returnFromHandler {i : Instr} {s : State} (hq : s.Quiet) (h : exec i s = .next s.returnFromHandler) :
    Completes i s { s with sp := s.sp + 2#16, pc := s.peek16 s.sp, wz := s.peek16 s.sp, iff1 := s.iff2 } s.peek
      [.memRead s.sp (s.peek s.sp), .memRead (s.sp + 1#16) (s.peek (s.sp + 1#16))] := by
  rw [State.returnFromHandler_quiet hq] at h
  exact completes_memRead16 hq h rfl

/-- Settles O57: the three are the return of R414. -/
theorem returnsFromHandler : Obligations.ReturnsFromHandler := by
  unfold Obligations.ReturnsFromHandler
  exact fun s hq => ⟨⟨reads_ed rfl fun _ => rfl, completes_returnFromHandler hq rfl⟩,
    fun y h0 h1 => ⟨reads_retnY h0 h1, completes_returnFromHandler hq rfl⟩,
    ⟨reads_ed rfl fun _ => rfl, completes_returnFromHandler hq rfl⟩⟩

theorem SameRegs.core {t u : State} (h : SameRegs t u) : SameCore t u := by
  rw [SameCore, h.eq_with]

/-- A pushed word is what stands at the new SP. -/
theorem State.peek16_pushed {s t : State} (hsp : t.sp = s.sp - 2#16)
    (hpeek : ∀ a, t.peek a = s.poked16 (s.sp - 2#16) s.pc a) : t.peek16 t.sp = s.pc ∧ t.sp + 2#16 = s.sp := by
  constructor
  · have hne := addr_succ_ne (s.sp - 2#16)
    simp [State.peek16, hpeek, hsp, State.poked16, hne]
  · rw [hsp]
    simp

/-- An instruction that takes PC from the stack goes to the pushed word. -/
theorem returns_to_pushed {i : Instr} {s b u : State} {m : Word → Byte} {ops : List BusOp} (hsp : b.sp = s.sp - 2#16)
    (hpeek : ∀ a, b.peek a = s.poked16 (s.sp - 2#16) s.pc a) (h : Completes i b u m ops)
    (hu : u.sp = b.sp + 2#16) (hpc : u.pc = b.peek16 b.sp) :
    ∃ t, exec i b = .next t ∧ t.pc = s.pc ∧ t.sp = s.sp ∧ t.iff1 = u.iff1 := by
  obtain ⟨t, ht, hregs, -⟩ := h
  obtain ⟨hword, htop⟩ := State.peek16_pushed hsp hpeek
  exact ⟨t, ht, hregs.core.pc.trans (hpc.trans hword), hregs.core.sp.trans (hu.trans htop), hregs.core.iff1⟩

/-- Settles O24: what a service or a call pushes is what the return pops. -/
theorem handlerRoundTrip : Obligations.HandlerRoundTrip := by
  unfold Obligations.HandlerRoundTrip
  refine fun s hq hc => ⟨fun hr hn => ?nmi, fun hr hd ho hreq hi hdelay => ?irq, fun nn => ?call⟩
  case nmi =>
    obtain ⟨hregs, hpeek, -⟩ := yields_nmi hq hc hr hn
    rw [State.handlerAt_eq] at hregs
    obtain ⟨t, ht, hpc, hsp, hi⟩ := returns_to_pushed hregs.core.sp hpeek
      (completes_returnFromHandler (i := .retn) (hregs.inside_nil hq) rfl) rfl rfl
    exact ⟨t, ht, hpc, hsp, hi.trans hregs.core.iff2⟩
  case irq =>
    obtain ⟨v, ops, hregs, hpeek, -⟩ := yields_irq hq hc hr hd ho ⟨hreq, hi, hdelay⟩
    rw [State.handlerAt_eq] at hregs
    obtain ⟨t, ht, hpc, hsp, hi⟩ := returns_to_pushed hregs.core.sp hpeek
      (completes_returnFromHandler (i := .reti) (hregs.inside_nil hq) rfl) rfl rfl
    exact ⟨t, ht, hpc, hsp, hi.trans hregs.core.iff2⟩
  case call =>
    obtain ⟨u, hu, hregs, hpeek, -⟩ := completes_call (i := .callNn nn) hq hc rfl
    obtain ⟨t, ht, hpc, hsp, -⟩ := returns_to_pushed hregs.core.sp hpeek
      (completes_popPc (i := .ret) (tr := u.trace) (hregs.inside_nil hq) rfl rfl) rfl rfl
    exact ⟨u, t, hu, hregs.core.pc, ht, hpc, hsp⟩

end Sys2Proof.Machine
end

section
/-! SUPPORT. Reset, the canonical form of memory, words from the encoding tables, the entry points of the environment,
and the instructions on I, R and the interrupt state. -/

namespace Sys2Proof.Machine

/-- Settles O1: cold start writes the listed values, whatever the unlisted ones. -/
theorem coldStart : Obligations.ColdStart := by
  unfold Obligations.ColdStart
  refine ⟨fun u => ?listed, Config.coldUnlisted, rfl⟩
  have hpair : join16 0xFF#8 0xFF#8 = 0xFFFF#16 := rfl
  exact ⟨hpair, rfl, hpair, hpair, hpair, rfl, rfl, rfl, rfl, rfl, rfl, rfl, rfl, rfl, rfl, rfl, rfl⟩

/-! ## The canonical form -/

theorem Memory.wfFrom_iff (m : Memory) :
    ∀ lo, Memory.wfFrom lo m = true ↔
      (m.map Prod.fst).Pairwise (· < ·) ∧ ∀ c ∈ m, lo ≤ c.1 ∧ c.1 < 65536 ∧ c.2 ≠ Config.unlistedByte := by
  induction m with
  | nil => simp [Memory.wfFrom]
  | cons c m ih =>
    intro lo
    obtain ⟨k, v⟩ := c
    simp only [Memory.wfFrom, ih, Bool.and_eq_true, decide_eq_true_eq, List.map_cons, List.pairwise_cons,
      List.mem_map, List.forall_mem_cons]
    constructor
    · rintro ⟨⟨⟨hlo, hk⟩, hv⟩, hsorted, hm⟩
      refine ⟨⟨?_, hsorted⟩, ⟨hlo, hk, hv⟩, fun c hc => ⟨?_, (hm c hc).2⟩⟩
      · rintro a ⟨c, hc, rfl⟩
        exact (hm c hc).1
      · exact hlo.trans (Nat.le_of_succ_le (hm c hc).1)
    · rintro ⟨⟨hlt, hsorted⟩, ⟨hlo, hk, hv⟩, hm⟩
      exact ⟨⟨⟨hlo, hk⟩, hv⟩, hsorted, fun c hc => ⟨hlt c.1 ⟨c, hc, rfl⟩, (hm c hc).2⟩⟩

theorem Memory.read_of_forall_ne {m : Memory} {a : Nat} (h : ∀ c ∈ m, c.1 ≠ a) : m.read a = Config.unlistedByte := by
  induction m with
  | nil => rfl
  | cons c m ih =>
    obtain ⟨hc, hm⟩ := List.forall_mem_cons.mp h
    rw [Memory.read, if_neg (Ne.symm hc), ih hm]

theorem State.canonical_iff (s : State) :
    s.Canonical ↔ (s.mem.map Prod.fst).Pairwise (· < ·) ∧
      ∀ c ∈ s.mem, c.1 < 65536 ∧ c.2 ≠ Config.unlistedByte := by
  rw [State.Canonical, Memory.wf, Memory.wfFrom_iff]
  simp

/-- A canonical memory holds nothing above the 16-bit space. -/
theorem State.Canonical.read_of_le {s : State} (h : s.Canonical) {a : Nat} (ha : 65536 ≤ a) :
    s.mem.read a = Config.unlistedByte :=
  Memory.read_of_forall_ne fun c hc => Nat.ne_of_lt (Nat.lt_of_lt_of_le ((s.canonical_iff.mp h).2 c hc).1 ha)

/-- Settles O2: the form by induction on the list; two such lists that read alike are equal. -/
theorem resetCanonical : Obligations.ResetCanonical := by
  unfold Obligations.ResetCanonical
  refine ⟨rfl, State.canonical_iff, fun s t hs ht h => Memory.ext_wf hs ht fun a => ?_⟩
  by_cases ha : a < 65536
  · have haddr : (BitVec.ofNat 16 a).toNat = a := Nat.mod_eq_of_lt ha
    have hpeek := h (BitVec.ofNat 16 a)
    rwa [State.peek, State.peek, haddr] at hpeek
  · rw [hs.read_of_le (Nat.le_of_not_lt ha), ht.read_of_le (Nat.le_of_not_lt ha)]

/-- Settles O6: nine words, decoded. -/
theorem decodeWords : Obligations.DecodeWords := by
  unfold Obligations.DecodeWords
  decide

/-! ## The entry points of the environment -/

section

variable {o : BusOp}

/-- The record is only added to. -/
theorem State.mem_trace_acts (l : List EnvAction) : ∀ {s : State}, o ∈ s.trace → o ∈ (s.acts l).trace := by
  induction l with
  | nil => exact id
  | cons x l ih =>
    intro s h
    refine ih ?_
    cases x
    case queryPc => exact List.mem_cons_of_mem _ h
    all_goals exact h

theorem State.mem_trace_react {s : State} (h : o ∈ s.trace) : o ∈ s.react.trace := by
  cases hi : s.inside with
  | nil => rwa [State.react_quiet s hi]
  | cons l rest =>
    rw [State.react_cons s hi]
    exact State.mem_trace_acts l h

theorem State.mem_trace_tick {s : State} (n : Nat) (h : o ∈ s.trace) : o ∈ (s.tick n).trace :=
  State.mem_trace_react (List.mem_cons_of_mem _ h)

end

/-- A fetched byte is read in the state the environment leaves; then PC moves, and then comes the charge. -/
theorem State.fetchByte_snd (s : State) (n : Nat) :
    (s.fetchByte n).2 =
      ((s.react.emit (.memRead s.pc (s.react.peek s.pc))).setPc (s.react.pc + 1#16)).tick n :=
  rfl

theorem State.queryPc_react {s : State} {rest : List (List EnvAction)} (h : s.inside = [.queryPc] :: rest) :
    s.react = (s.setInside rest).emit (.pcQuery s.pc) :=
  State.react_cons s h

/-- Settles O23: each action is one write; the moments of an operation are those of its definition. -/
theorem signals : Obligations.Signals := by
  unfold Obligations.Signals
  intro s
  refine ⟨⟨rfl, fun _ _ => rfl, s.arrive_nil, fun l rest h => s.arrive_cons h⟩, ⟨rfl, rfl, rfl, rfl, rfl, rfl, rfl⟩,
    ⟨rfl, rfl⟩, fun a v => ⟨rfl, fun hc b => ?change⟩, fun l rest h => ⟨fun a => ?read, fun n => ?tick⟩,
    fun n rest h => ?queryBefore, fun n rest h => ?queryAfter⟩
  case change =>
    show (s.mem.write a.toNat v).read b.toNat = _
    rw [Memory.read_write hc, State.poked]
    simp only [BitVec.toNat_inj]
    rfl
  case read =>
    show s.react.peek a = _
    rw [State.react_cons s h]
    rfl
  case tick => exact State.react_cons (s.emit (.tick n)) h
  case queryBefore =>
    rw [State.fetchByte_snd, State.queryPc_react h]
    exact State.mem_trace_tick n (List.mem_cons_of_mem _ List.mem_cons_self)
  case queryAfter =>
    have hr : s.react = s.setInside ([.queryPc] :: rest) := State.react_cons s h
    rw [State.fetchByte_snd, hr, State.tick, State.queryPc_react (rest := rest) rfl]
    exact List.mem_cons_self

/-! ## I, R and the interrupt state -/

theorem completes_loadAir {i : Instr} {s : State} {v : Byte} (hq : s.Quiet) (h : exec i s = .next (s.loadAir v)) :
    Completes i s { s with a := v, f := (s.f &&& 0x01#8) ||| sz53 v ||| (if s.iff2 then 0x04#8 else 0x00#8) }
      s.peek [] := by
  have hf : ldAirF v s.f s.iff2 = (s.f &&& 0x01#8) ||| sz53 v ||| (if s.iff2 then 0x04#8 else 0x00#8) := by
    cases s.iff2 <;> rfl
  rw [State.loadAir, hf] at h
  exact completes_tick (g := fun t => (t.setA v).setF _) hq (fun _ _ _ => rfl) h

/-- Settles O30: one register each, and for the loads of A the flags. -/
theorem loadInterruptRegs : Obligations.LoadInterruptRegs := by
  unfold Obligations.LoadInterruptRegs
  exact fun s hq => ⟨⟨reads_ed rfl fun _ => rfl, completes_loadAir hq rfl⟩,
    ⟨reads_ed rfl fun _ => rfl, completes_loadAir hq rfl⟩,
    ⟨reads_ed rfl fun _ => rfl, completes_tick (g := (State.setI · s.a)) hq (fun _ _ _ => rfl) rfl⟩,
    ⟨reads_ed rfl fun _ => rfl, completes_tick (g := (State.setR · s.a)) hq (fun _ _ _ => rfl) rfl⟩⟩

/-- Settles O46: each writes its control registers and nothing else. -/
theorem interruptControl : Obligations.InterruptControl := by
  unfold Obligations.InterruptControl
  refine fun s => ⟨⟨reads_main rfl (by decide) fun _ => rfl, completes_of_mem_trace rfl rfl rfl⟩,
    ⟨reads_main rfl (by decide) fun _ => rfl, completes_of_mem_trace rfl rfl rfl⟩,
    ⟨reads_main rfl (by decide) fun _ => rfl, completes_of_mem_trace rfl rfl rfl⟩,
    ⟨reads_ed rfl fun _ => rfl, completes_of_mem_trace rfl rfl rfl⟩,
    ⟨reads_ed rfl fun _ => rfl, completes_of_mem_trace rfl rfl rfl⟩,
    ⟨reads_ed rfl fun _ => rfl, completes_of_mem_trace rfl rfl rfl⟩, ?imY,
    ⟨reads_ed rfl fun _ => rfl, completes_of_mem_trace rfl rfl rfl⟩,
    ⟨reads_ed rfl fun _ => rfl, completes_of_mem_trace rfl rfl rfl⟩⟩
  case imY =>
    rintro y (rfl | rfl | rfl) <;> exact ⟨reads_ed rfl fun _ => rfl, completes_of_mem_trace rfl rfl rfl⟩

end Sys2Proof.Machine
end

section
/-! SUPPORT. The flag tables, the rotates, the conditions and the selector tables, entry by entry
(30_encoding.md R93 to R95, 40_alu_flag_tables.md R131 to R144, 10_state.md R21, R25). -/

namespace Sys2Proof.Machine

/-! ## Flag tables -/

theorem flags_eq_bits (f : Byte) :
    [flagS f, flagZ f, flagY f, flagH f, flagX f, flagP f, flagN f, flagC f] = [7, 6, 5, 4, 3, 2, 1, 0].map f.getLsbD :=
  rfl

theorem msb_eq_bit (v : Byte) : v.msb = v.getLsbD 7 := by
  rw [BitVec.msb_eq_getLsbD_last]

theorem sz53_flags (v : Byte) : flagS (sz53 v) = v.msb ∧ flagZ (sz53 v) = (v == 0#8) ∧ flagY (sz53 v) = v.getLsbD 5 ∧
    flagX (sz53 v) = v.getLsbD 3 ∧ sz53 v &&& 0x17#8 = 0#8 :=
  ⟨(flagS_sz53 v).trans (msb_eq_bit v).symm, flagZ_sz53 v, flagY_sz53 v, flagX_sz53 v, sz53_other v⟩

theorem parity_iff_even : ∀ v : Byte,
    parity v = true ↔ ((List.range 8).filter fun k => v.getLsbD k).length % 2 = 0 := by decide +kernel

theorem sz53p_eq (v : Byte) : sz53p v = sz53 v ||| (if parity v then 0x04#8 else 0x00#8) := by
  rw [sz53p]
  cases parity v <;> rfl

/-! ## Rotates and shifts -/

theorem rot8_rl_rr : ∀ (v : Byte) (c : Bool),
    rot8 .rl v c = (BitVec.ofNat 8 (2 * v.toNat + c.toNat), v.msb) ∧
      rot8 .rr v c = (BitVec.ofNat 8 (v.toNat / 2 + 128 * c.toNat), v.getLsbD 0) := by decide +kernel

theorem rot8_shifts : ∀ (v : Byte),
    rot8 .sla v false = (BitVec.ofNat 8 (2 * v.toNat), v.msb) ∧
      rot8 .sra v false = (v.sshiftRight 1, v.getLsbD 0) ∧
      rot8 .sll v false = (BitVec.ofNat 8 (2 * v.toNat + 1), v.msb) ∧
      rot8 .srl v false = (BitVec.ofNat 8 (v.toNat / 2), v.getLsbD 0) := by decide +kernel

theorem rot8_eq (v : Byte) (c : Bool) :
    rot8 .rlc v c = (v.rotateLeft 1, v.msb) ∧
      rot8 .rrc v c = (v.rotateRight 1, v.getLsbD 0) ∧
      rot8 .rl v c = (BitVec.ofNat 8 (2 * v.toNat + c.toNat), v.msb) ∧
      rot8 .rr v c = (BitVec.ofNat 8 (v.toNat / 2 + 128 * c.toNat), v.getLsbD 0) ∧
      rot8 .sla v c = (BitVec.ofNat 8 (2 * v.toNat), v.msb) ∧
      rot8 .sra v c = (v.sshiftRight 1, v.getLsbD 0) ∧
      rot8 .sll v c = (BitVec.ofNat 8 (2 * v.toNat + 1), v.msb) ∧
      rot8 .srl v c = (BitVec.ofNat 8 (v.toNat / 2), v.getLsbD 0) := by
  refine ⟨?rlc, rot8_rrc v c, (rot8_rl_rr v c).1, (rot8_rl_rr v c).2, rot8_shifts v⟩
  case rlc => rw [msb_eq_bit, rot8_rlc]

/-! ## Pairs and halves -/

theorem toNat_join16 (h l : Byte) : (join16 h l).toNat = 256 * h.toNat + l.toNat := by
  rw [join16, BitVec.toNat_append, ← Nat.shiftLeft_add_eq_or_of_lt l.isLt, Nat.shiftLeft_eq, Nat.mul_comm]

theorem toNat_halves (v : Word) : (hi8 v).toNat = v.toNat / 256 ∧ (lo8 v).toNat = v.toNat % 256 := by
  have hv := v.isLt
  simp only [hi8, lo8, BitVec.extractLsb'_toNat, Nat.shiftRight_eq_div_pow]
  omega

/-! ## Conditions -/

theorem State.cond_iff (s : State) :
    (s.cond .nz = true ↔ s.f.getLsbD 6 = false) ∧ (s.cond .z = true ↔ s.f.getLsbD 6 = true) ∧
     (s.cond .nc = true ↔ s.f.getLsbD 0 = false) ∧ (s.cond .c = true ↔ s.f.getLsbD 0 = true) ∧
     (s.cond .po = true ↔ s.f.getLsbD 2 = false) ∧ (s.cond .pe = true ↔ s.f.getLsbD 2 = true) ∧
     (s.cond .p = true ↔ s.f.getLsbD 7 = false) ∧ (s.cond .m = true ↔ s.f.getLsbD 7 = true) := by
  simp [State.cond, flagZ, flagC, flagP, flagS]

theorem condJr_code (cc : CondJr) :
    4 ≤ cc.code.toNat ∧ ∀ s : State, s.condJr cc = s.cond (selCond (cc.code.toNat - 4)) := by
  cases cc <;> exact ⟨by decide, fun _ => rfl⟩

/-- Settles O25: the tables by their entries, the byte-wide facts over every byte. -/
theorem selectorTables : Obligations.SelectorTables := by
  unfold Obligations.SelectorTables
  refine ⟨⟨flags_eq_bits, sz53_flags, parity_iff_even, sz53p_eq⟩, rot8_eq, fun s => ?conditions, ?tables,
    ⟨rfl, rfl, rfl, rfl, rfl⟩, ⟨rfl, rfl, rfl, rfl, rfl, rfl, rfl, rfl, rfl, toNat_xyz, toNat_xpqz⟩,
    ⟨toNat_join16, toNat_halves⟩, fun s => ?read, fun s v => ?write8, fun s v => ?write16⟩
  case conditions =>
    obtain ⟨hnz, hz, hnc, hc, hpo, hpe, hp, hm⟩ := s.cond_iff
    exact ⟨hnz, hz, hnc, hc, hpo, hpe, hp, hm, rfl, rfl, rfl, rfl⟩
  case tables => exact ⟨rfl, condJr_code, fun _ => rfl, fun _ => rfl, rfl⟩
  case read =>
    exact ⟨rfl, rfl, rfl, rfl, rfl, rfl, rfl, fun _ => rfl, fun _ => rfl, rfl, rfl, fun _ => ⟨rfl, rfl⟩⟩
  case write8 =>
    exact ⟨rfl, rfl, rfl, rfl, rfl, rfl, rfl, fun _ => ⟨rfl, rfl, rfl, rfl, rfl, rfl, rfl⟩, rfl, rfl, rfl, rfl⟩
  case write16 =>
    exact ⟨rfl, rfl, rfl, rfl, rfl, rfl, rfl, rfl, rfl, rfl, rfl, rfl, rfl⟩

end Sys2Proof.Machine
end

section
/-! SUPPORT. The indexed rotates, bit tests, sets and resets (47_rotate_shift_bit.md R307, R311, R313): the byte at
`XY+d` modified, with and without a copy of the result to a register. -/

namespace Sys2Proof.Machine

/-! ## A byte modified, and copied to a register -/

theorem writesRegs_setR8 (r : Reg8) (v : Byte) : WritesRegs (State.setR8 · r v) := by
  cases r <;> exact fun _ _ _ => rfl

theorem SameRegs.writesRegs {g : State → State} (hg : WritesRegs g) {t u : State} (h : SameRegs t u) :
    SameRegs (g t) (g u) := by
  rw [h.eq_with, hg]
  rfl

section

variable {i : Instr} {s w u : State} {f g : State → State} {m : Word → Byte} {ops : List BusOp} (hg : WritesRegs g)
  (hregs : SameRegs w u) (hpeek : ∀ a, w.peek a = m a) (hbus : w.bus = ops.reverse ++ s.bus)
include hg hregs hpeek hbus

/-- What reaches the state `w` on the bus, with the registers of `u`, and then writes registers. -/
theorem yields_of_sameRegs (h : f s = g w) : Yields f s (g u) m ops := by
  have hgw : g w = { g w with mem := w.mem, trace := w.trace } := hg w w.mem w.trace
  rw [Yields, h]
  refine ⟨hregs.writesRegs hg, ?_⟩
  rw [hgw]
  exact ⟨hpeek, hbus⟩

theorem completes_of_sameRegs (h : exec i s = .next (g w)) : Completes i s (g u) m ops :=
  ⟨g w, h, yields_of_sameRegs (f := fun _ => g w) hg hregs hpeek hbus rfl⟩

end

theorem State.readSetF_sameRegs (s : State) (addr : Word) (f : Byte) : SameRegs (s.readSetF addr f) (s.setF f) := by
  simp only [SameRegs, State.readSetF, State.emit, State.setF]

theorem State.readSetF_bus (s : State) (addr : Word) (f : Byte) :
    (s.readSetF addr f).bus = .memRead addr (s.peek addr) :: s.bus := rfl

section

variable {s : State} {addr w : Word} {op : Byte → Byte → Byte × Byte} {k : Byte → State → Byte × State}
  (hk : ∀ v t, k v t = ((op v t.f).1, t.setF (op v t.f).2)) (hq : s.Quiet) (hc : s.Canonical)
include hk hq hc

theorem yields_modifyByte :
    Yields (fun t => (t.setWz w).modifyByte addr k) s ((s.setWz w).setF (op (s.peek addr) s.f).2)
      (s.poked addr (op (s.peek addr) s.f).1)
      [.memRead addr (s.peek addr), .memWrite addr (op (s.peek addr) s.f).1] := by
  have hread := State.readSetF_sameRegs (s.setWz w) addr (op (s.peek addr) s.f).2
  have hmem : ((s.setWz w).readSetF addr (op (s.peek addr) s.f).2).mem = s.mem := rfl
  have hbus := State.readSetF_bus (s.setWz w) addr (op (s.peek addr) s.f).2
  have hquiet := hread.inside_nil hq
  rw [State.peek_setWz] at hbus
  rw [Yields, State.modifyByte_quiet (s := s.setWz w) hk hq, State.peek_setWz, State.setWz_f]
  refine ⟨(State.memWrite_sameRegs _ _ _ hquiet).trans hread, fun a => ?mem, ?bus⟩
  case mem =>
    rw [State.memWrite_peek _ _ _ hquiet (State.canonical_congr hmem hc), State.poked, State.poked,
      State.peek_congr hmem]
  case bus =>
    rw [State.memWrite_bus, hbus]
    rfl

/-- The same with the byte written copied to `r`. -/
theorem completes_modifyByteCopy {i : Instr} {r : Reg8}
    (h : exec i s = .next ((s.setWz w).modifyByteCopy addr k r)) :
    Completes i s (((s.setWz w).setF (op (s.peek addr) s.f).2).setR8 r (op (s.peek addr) s.f).1)
      (s.poked addr (op (s.peek addr) s.f).1)
      [.memRead addr (s.peek addr), .memWrite addr (op (s.peek addr) s.f).1] := by
  have hq' : (s.setWz w).inside = [] := hq
  obtain ⟨hregs, hpeek, hbus⟩ := yields_modifyByte (w := w) hk hq hc
  rw [State.modifyByteCopy_eq, hk, State.memRead_quiet _ addr hq'] at h
  exact completes_of_sameRegs (writesRegs_setR8 r _) hregs hpeek hbus h

end

/-! ## Rotates and shifts -/

/-- Every rotate and shift of the DD CB and FD CB tables completes in both its forms (R307). -/
theorem rotFormsXy_rot (y : BitVec 3) {c : InstrClass} (hklass : ∀ x d, (rotAtXyd y.toNat x d).klass = c)
    (hcopy : ∀ x d r, (rotAtXydR y.toNat x d r).klass = .undocumented) :
    RotFormsXy (rotKind y.toNat) y c (rotAtXyd y.toNat) (rotAtXydR y.toNat) := by
  intro s x d hq hc
  have hop (v : Byte) (t : State) := t.rotByte_eq (rotKind y.toNat) v
  refine ⟨⟨?reads, completes_modifyByte (op := rotResult (rotKind y.toNat)) hop hq hc (exec_rotAtXyd s x d y.toNat)⟩,
    fun r => ⟨?readsCopy,
      completes_modifyByteCopy (op := rotResult (rotKind y.toNat)) hop hq hc (exec_rotAtXydR s x d r y.toNat)⟩⟩
  case reads => exact hklass x d ▸ reads_rotAtXyd x d y
  case readsCopy => exact hcopy x d r ▸ reads_rotAtXydR r x d y

/-- Settles O50: the eight operations are the rows 0 to 7 of `rot[y]`. -/
theorem rotateIndexed : Obligations.RotateIndexed := by
  unfold Obligations.RotateIndexed
  exact ⟨rotFormsXy_rot 0#3 (fun _ _ => rfl) fun _ _ _ => rfl, rotFormsXy_rot 1#3 (fun _ _ => rfl) fun _ _ _ => rfl,
    rotFormsXy_rot 2#3 (fun _ _ => rfl) fun _ _ _ => rfl, rotFormsXy_rot 3#3 (fun _ _ => rfl) fun _ _ _ => rfl,
    rotFormsXy_rot 4#3 (fun _ _ => rfl) fun _ _ _ => rfl, rotFormsXy_rot 5#3 (fun _ _ => rfl) fun _ _ _ => rfl,
    rotFormsXy_rot 6#3 (fun _ _ => rfl) fun _ _ _ => rfl, rotFormsXy_rot 7#3 (fun _ _ => rfl) fun _ _ _ => rfl⟩

/-! ## Bit tests, sets and resets -/

/-- The test of the byte at an indexed address, which goes to WZ. -/
theorem completes_testXyd {i : Instr} {s : State} {b : BitNo} {x : Idx} {d : Byte} {addr : Word} (hq : s.Quiet)
    (haddr : s.xydAddr x d = addr) (h : exec i s = .next (s.testXyd b x d)) :
    Completes i s ((s.setWz addr).setF (bitF b (s.peek addr) (hi8 addr) s.f)) s.peek
      [.memRead addr (s.peek addr)] := by
  have hs : SameRegs (s.setWz addr) (s.setWz addr) := rfl
  have hinside : s.inside = [] := hq
  have hq' : (s.setWz addr).inside = [] := hq
  have htest : s.testXyd b x d = (s.setWz addr).testByte addr b := by
    rw [← haddr]
    rfl
  rw [htest, State.testByte_eq, State.memRead_fst_quiet _ addr hq'] at h
  have hmem : (((s.setWz addr).memRead addr).2.tick 1).mem = s.mem := by
    simp [State.memRead_quiet, State.tick_quiet, hinside]
  have hbus : (((s.setWz addr).memRead addr).2.tick 1).bus = [.memRead addr (s.peek addr)] ++ s.bus := by
    simp [State.memRead_fst_quiet, hinside]
  exact completes_of_sameRegs (g := (State.setF · _)) (fun _ _ _ => rfl) ((hs.memRead hq' addr).tick hq' 1)
    (State.peek_congr hmem) hbus h

section

variable {i : Instr} {s : State} {x : Idx} {d : Byte} (g : Byte → Byte) (hq : s.Quiet) (hc : s.Canonical)
include hq hc

/-- A byte at an indexed address modified with no flag written. -/
theorem completes_modifyXyd (h : exec i s = .next ((s.setWz (s.xydAddr x d)).modifyByte (s.xydAddr x d)
      fun v t => (g v, t))) :
    Completes i s (s.setWz (s.xydAddr x d)) (s.poked (s.xydAddr x d) (g (s.peek (s.xydAddr x d))))
      [.memRead (s.xydAddr x d) (s.peek (s.xydAddr x d)),
        .memWrite (s.xydAddr x d) (g (s.peek (s.xydAddr x d)))] :=
  completes_modifyByte (op := fun v f => (g v, f)) (fun _ _ => rfl) hq hc h

/-- The same with the byte written copied to `r`. -/
theorem completes_modifyXydCopy {r : Reg8} (h : exec i s = .next ((s.setWz (s.xydAddr x d)).modifyByteCopy
      (s.xydAddr x d) (fun v t => (g v, t)) r)) :
    Completes i s ((s.setWz (s.xydAddr x d)).setR8 r (g (s.peek (s.xydAddr x d))))
      (s.poked (s.xydAddr x d) (g (s.peek (s.xydAddr x d))))
      [.memRead (s.xydAddr x d) (s.peek (s.xydAddr x d)),
        .memWrite (s.xydAddr x d) (g (s.peek (s.xydAddr x d)))] :=
  completes_modifyByteCopy (op := fun v f => (g v, f)) (fun _ _ => rfl) hq hc h

end

/-- Settles O53: BIT writes F and WZ; SET and RES write WZ, the byte, and the register of their copy. -/
theorem bitIndexed : Obligations.BitIndexed := by
  unfold Obligations.BitIndexed
  refine ⟨fun s b x d hq => ?test, fun s b x d hq hc => ?setReset⟩
  case test =>
    simp only [← bitF_eq]
    exact ⟨⟨reads_bitBAtXyd x d b, completes_testXyd hq rfl rfl⟩,
      fun z hz => ⟨reads_bitBAtXydZ x d b hz, completes_testXyd hq rfl rfl⟩⟩
  case setReset =>
    exact ⟨⟨reads_setBAtXyd x d b, completes_modifyXyd (· ||| bitMask b) hq hc rfl⟩,
      fun r => ⟨reads_setBAtXydR r x d b, completes_modifyXydCopy (· ||| bitMask b) hq hc rfl⟩,
      ⟨reads_resBAtXyd x d b, completes_modifyXyd (· &&& ~~~bitMask b) hq hc rfl⟩,
      fun r => ⟨reads_resBAtXydR r x d b, completes_modifyXydCopy (· &&& ~~~bitMask b) hq hc rfl⟩⟩

end Sys2Proof.Machine
end

section
/-! SUPPORT. The repeating block instructions, the ports and the relative jumps in a quiet environment
(43_exchange_block.md R226 to R232, 49_input_output.md R341 to R355, 48_jump_call_return.md R323 to R326). -/

namespace Sys2Proof.Machine

/-! ## One iteration, and then perhaps back -/

section

variable {i : Instr} {s u : State} {g h : State → State} {m : Word → Byte} {ops : List BusOp}

theorem Yields.completes (hg : Yields g s u m ops) (he : exec i s = .next (g s)) : Completes i s u m ops :=
  ⟨g s, he, hg⟩

theorem Completes.yields (hi : Completes i s u m ops) (he : exec i s = .next (g s)) : Yields g s u m ops := by
  obtain ⟨t, ht, hi⟩ := hi
  rw [he] at ht
  cases ht
  exact hi

variable (hg : Yields g s u m ops)
include hg

/-- A register pair, register or PC afterwards is that of the expected state. -/
theorem Yields.reads {α : Type} {r : State → α} (hr : ∀ (t : State) mem tr, r { t with mem := mem, trace := tr } = r t) :
    r (g s) = r u := by
  rw [hg.1.eq_with, hr]

variable (hq : u.inside = [])
include hq

/-- A charge, and then registers written. -/
theorem Yields.tick_regs (n : Nat) (hh : WritesRegs h) : Yields (fun t => h ((g t).tick n)) s (h u) m ops := by
  obtain ⟨hregs, hpeek, hbus⟩ := hg
  refine yields_of_sameRegs hh (hregs.tick hq n) (fun a => ?mem) ((State.bus_tick _ n).trans hbus) rfl
  case mem =>
    rw [State.tick_quiet _ n (hregs.inside_nil hq)]
    exact hpeek a

/-- An instruction that goes back while `p` holds. -/
theorem Yields.completes_again {n : Nat} {again : Bool} {p : Prop} [Decidable p] (hh : WritesRegs h)
    (he : exec i s = .next (if again then h ((g s).tick n) else g s)) (hp : again = decide p) :
    Completes i s (if p then h u else u) m ops := by
  by_cases hc : p
  · rw [hp, decide_eq_true hc, if_pos rfl] at he
    rw [if_pos hc]
    exact (hg.tick_regs hq n hh).completes he
  · rw [hp, decide_eq_false hc, if_neg Bool.false_ne_true] at he
    rw [if_neg hc]
    exact hg.completes he

end

theorem State.repeatBlockWz_eq (s : State) : s.repeatBlockWz = (s.tick 5).repeated := by
  rw [State.repeated, State.tick_pc]
  rfl

theorem State.repeatBlock_eq (s : State) : s.repeatBlock = (s.tick 5).setPc ((s.tick 5).pc - 2#16) := by
  simp [State.repeatBlock]

theorem bne_eq_decide_ne {n : Nat} (v w : BitVec n) : (v != w) = decide (v ≠ w) := by
  by_cases h : v = w <;> simp [h]

theorem sub_bne_zero (a b : Byte) : (a - b != 0#8) = decide (a ≠ b) := by
  have h : a - b = 0#8 ↔ a = b := sub_eq_zero
  rw [bne_eq_decide_ne, decide_eq_decide]
  exact h.not

/-! ## Block transfer and search -/

theorem State.afterLd_bc (s : State) (k : Word) : (s.afterLd k).bc = s.bc - 1#16 := join16_halves (s.bc - 1#16)

theorem State.afterLd_inside (s : State) (k : Word) : (s.afterLd k).inside = s.inside := by
  simp [State.afterLd]

theorem State.afterCp_bc (s : State) (k : Word) : (s.afterCp k).bc = s.bc - 1#16 := join16_halves (s.bc - 1#16)

theorem State.afterCp_inside (s : State) (k : Word) : (s.afterCp k).inside = s.inside := by
  simp [State.afterCp]

section

variable {i : Instr} {s : State} (dir : Dir) (hq : s.Quiet)
include hq

theorem completes_blockLdRepeat (hc : s.Canonical) (h : exec i s = .next (s.blockLdRepeat dir)) :
    Completes i s (if s.bc - 1#16 ≠ 0#16 then (s.afterLd dir.step16).repeated else s.afterLd dir.step16)
      (s.poked s.de (s.peek s.hl)) [.memRead s.hl (s.peek s.hl), .memWrite s.de (s.peek s.hl)] := by
  have hone : Yields (State.blockLd · dir) s (s.afterLd dir.step16) (s.poked s.de (s.peek s.hl))
      [.memRead s.hl (s.peek s.hl), .memWrite s.de (s.peek s.hl)] := by
    cases dir with
    | up => exact (completes_blockLd (i := .ldi) hq hc rfl).yields rfl
    | down => exact (completes_blockLd (i := .ldd) hq hc rfl).yields rfl
  have hbc : (s.blockLd dir).bc = s.bc - 1#16 :=
    (hone.reads (r := State.bc) fun _ _ _ => rfl).trans (s.afterLd_bc _)
  rw [State.blockLdRepeat, State.repeatBlockWz_eq, hbc] at h
  exact hone.completes_again ((s.afterLd_inside _).trans hq) (h := State.repeated) (fun _ _ _ => rfl) h (bne_eq_decide_ne _ _)

theorem completes_blockCpRepeat (h : exec i s = .next (s.blockCpRepeat dir)) :
    Completes i s (if s.bc - 1#16 ≠ 0#16 ∧ s.a ≠ s.peek s.hl then (s.afterCp dir.step16).repeated
      else s.afterCp dir.step16) s.peek [.memRead s.hl (s.peek s.hl)] := by
  have hone : Yields (fun t => (t.blockCp dir).2) s (s.afterCp dir.step16) s.peek [.memRead s.hl (s.peek s.hl)] := by
    cases dir with
    | up => exact (completes_blockCp (i := .cpi) hq rfl).yields rfl
    | down => exact (completes_blockCp (i := .cpd) hq rfl).yields rfl
  have hbc : (s.blockCp dir).2.bc = s.bc - 1#16 :=
    (hone.reads (r := State.bc) fun _ _ _ => rfl).trans (s.afterCp_bc _)
  have hr : (s.blockCp dir).1 = s.a - s.peek s.hl := by
    rw [State.blockCp_eq, State.memRead_fst_quiet s s.hl hq]
  have hagain : ((s.bc - 1#16 != 0#16) && (s.a - s.peek s.hl != 0#8)) =
      decide (s.bc - 1#16 ≠ 0#16 ∧ s.a ≠ s.peek s.hl) := by
    rw [bne_eq_decide_ne, sub_bne_zero, ← Bool.decide_and]
  rw [State.blockCpRepeat] at h
  simp only [State.repeatBlockWz_eq, hbc, hr] at h
  exact hone.completes_again ((s.afterCp_inside _).trans hq) (h := State.repeated) (fun _ _ _ => rfl) h hagain

end

/-- Settles O36: the iteration of LDI and LDD, and then PC back while the new BC is not zero. -/
theorem blockTransferRepeat : Obligations.BlockTransferRepeat := by
  unfold Obligations.BlockTransferRepeat
  exact fun s hq hc => ⟨⟨reads_ed rfl fun _ => rfl, completes_blockLdRepeat .up hq hc rfl⟩,
    ⟨reads_ed rfl fun _ => rfl, completes_blockLdRepeat .down hq hc rfl⟩⟩

/-- Settles O38: the iteration of CPI and CPD, and then PC back while BC is not zero and the byte differs from A. -/
theorem blockSearchRepeat : Obligations.BlockSearchRepeat := by
  unfold Obligations.BlockSearchRepeat
  exact fun s hq => ⟨⟨reads_ed rfl fun _ => rfl, completes_blockCpRepeat .up hq rfl⟩,
    ⟨reads_ed rfl fun _ => rfl, completes_blockCpRepeat .down hq rfl⟩⟩

/-! ## Relative jumps -/

theorem sext8_toInt (e : Byte) : (sext8 e).toInt = e.toInt :=
  BitVec.toInt_signExtend_of_le (by decide)

theorem sext8_eq : ∀ e : Byte,
    sext8 e = if e.toNat < 0x80 then BitVec.ofNat 16 e.toNat else BitVec.ofNat 16 e.toNat - 256#16 := by
  intro e
  apply BitVec.eq_of_toNat_eq
  rw [sext8, BitVec.toNat_signExtend, BitVec.msb_eq_decide]
  by_cases h : e.toNat < 0x80
  · have hm : ¬ 0x80 ≤ e.toNat := Nat.not_le.mpr h
    simp [h, hm]
  · have hm : 0x80 ≤ e.toNat := Nat.le_of_not_lt h
    simp [h, hm]
    omega

/-- PC and WZ the address after the displacement plus the displacement. -/
def State.jumpBy (s : State) (e : Byte) : State := { s with pc := s.pc + sext8 e, wz := s.pc + sext8 e }

/-- A state with the bytes and the record of `s` that jumps or not: the charge is on the record only. -/
theorem completes_jumpRel {i : Instr} {s u : State} {e : Byte} {taken : Bool} (hq : u.inside = []) (hm : u.mem = s.mem)
    (ht : u.trace = s.trace) (h : exec i s = .next (if taken then u.jumpRel e else u)) :
    Completes i s (if taken then u.jumpBy e else u) s.peek [] := by
  have hid : Yields (fun _ => u) s u s.peek [] := ⟨rfl, State.peek_congr hm, congrArg (List.filter BusOp.isOp) ht⟩
  have hjump : u.jumpRel e = (u.tick 5).jumpBy e := by
    rw [State.jumpRel_eq]
    rfl
  rw [hjump] at h
  have hdone := hid.completes_again (p := taken = true) (h := (State.jumpBy · e)) hq (fun _ _ _ => rfl) h (by simp)
  exact hdone

/-- Settles O55: PC and WZ by the displacement when taken; the charge is on the record only. -/
theorem relativeJumps : Obligations.RelativeJumps := by
  unfold Obligations.RelativeJumps
  refine ⟨fun e => ⟨sext8_toInt e, sext8_eq e⟩, fun s x d => rfl, ?jumps⟩
  intro s e hq target jump
  refine ⟨⟨reads_main rfl (by decide) fun _ => rfl, completes_jumpRel (taken := true) hq rfl rfl rfl⟩,
    fun cc => ⟨reads_jrCc e cc, completes_jumpRel hq rfl rfl rfl⟩,
    ⟨reads_main rfl (by decide) fun _ => rfl, ?djnz⟩⟩
  case djnz =>
    have hcount : (s.b - 1#8 != 0#8) = (s.b != 1#8) := by
      rw [sub_bne_zero, bne_eq_decide_ne]
    refine completes_jumpRel (u := s.setB (s.b - 1#8)) hq rfl rfl ?_
    rw [← hcount]
    rfl

end Sys2Proof.Machine
end

section
/-! SUPPORT. DAA, CCF and SCF (45_general_control.md R260, R263, R264), and the decimal result of DAA: after an
addition or a subtraction of packed BCD bytes its two corrections are the decimal carries of the two digits. -/

namespace Sys2Proof.Machine

/-! ## The results as the rules write them -/

/-- The low digit is to be corrected (R260). -/
def daaLow (a f : Byte) : Bool := flagH f || decide (9 < (a &&& 0x0F#8).toNat)

/-- The high digit is to be corrected. -/
def daaHigh (a f : Byte) : Bool := flagC f || decide (0x99 < a.toNat)

/-- What DAA adds or subtracts. -/
def daaCorr (low high : Bool) : Byte := (if low then 0x06#8 else 0x00#8) ||| (if high then 0x60#8 else 0x00#8)

/-- The accumulator corrected, with the flags of that addition or subtraction. -/
def daaSum (a f corr : Byte) : Byte × Byte := if flagN f then sub8 a corr false else add8 a corr false

theorem daa8_eq (a f : Byte) :
    daa8 a f = ((daaSum a f (daaCorr (daaLow a f) (daaHigh a f))).1,
      ((daaSum a f (daaCorr (daaLow a f) (daaHigh a f))).2 &&& 0xFA#8) |||
        bitAt 2 (parity (daaSum a f (daaCorr (daaLow a f) (daaHigh a f))).1) ||| bitAt 0 (daaHigh a f)) :=
  rfl

theorem ccfF_eq (a f : Byte) :
    ccfF a f = (f &&& 0xC4#8) ||| (a &&& 0x28#8) ||| (if flagC f then 0x10#8 else 0x01#8) := by
  have hbits (x y : Byte) : x ||| 0x10#8 ||| y ||| 0x00#8 = x ||| y ||| 0x10#8 := by
    rw [BitVec.or_zero, BitVec.or_assoc, BitVec.or_comm 0x10#8, BitVec.or_assoc]
  rw [ccfF]
  cases flagC f with
  | true => exact hbits _ _
  | false => exact congrArg (· ||| (a &&& 0x28#8) ||| 0x01#8) (BitVec.or_zero)

/-- Settles O43: A and F are written. -/
theorem adjustAndCarry : Obligations.AdjustAndCarry := by
  unfold Obligations.AdjustAndCarry
  intro s low high corr rf
  refine ⟨⟨reads_main rfl (by decide) fun _ => rfl, ?daa⟩, ⟨reads_main rfl (by decide) fun _ => rfl, ?ccf⟩,
    ⟨reads_main rfl (by decide) fun _ => rfl, completes_of_mem_trace rfl rfl rfl⟩⟩
  case daa =>
    have hlow : low = (daaLow s.a s.f = true) := by simp [low, daaLow]
    have hhigh : high = (daaHigh s.a s.f = true) := by simp [high, daaHigh]
    simp only [rf, corr, hlow, hhigh]
    exact completes_of_mem_trace (show execDaa s = _ from by rw [execDaa, daa8_eq]; rfl) rfl rfl
  case ccf =>
    rw [← ccfF_eq]
    exact completes_of_mem_trace rfl rfl rfl

/-! ## The decimal result -/

theorem toNat_and_fifteen (a : Byte) : (a &&& 0x0F#8).toNat = a.toNat % 16 := by
  rw [BitVec.toNat_and]
  exact Nat.and_two_pow_sub_one_eq_mod a.toNat 4

/-- The corrections as a number. -/
theorem toNat_daaCorr (low high : Bool) : (daaCorr low high).toNat = 6 * low.toNat + 96 * high.toNat := by
  cases low <;> cases high <;> rfl

/-- C after DAA is that the high digit was corrected. -/
theorem flagC_daa8 (a f : Byte) : flagC (daa8 a f).2 = daaHigh a f := by
  have hbit (x : Byte) (p h : Bool) : flagC ((x &&& 0xFA#8) ||| bitAt 2 p ||| bitAt 0 h) = h := by
    cases p <;> cases h <;> simp [flagC, bitAt]
  rw [daa8_eq]
  exact hbit ..

theorem exec_daa (s : State) (rf : Byte × Byte) :
    ∃ t, exec .daa (s.withAF rf) = .next t ∧ t.a = (daa8 rf.1 rf.2).1 ∧ t.f = (daa8 rf.1 rf.2).2 :=
  ⟨_, rfl, rfl, rfl⟩

section

variable {a f : Byte}

theorem daaLow_iff : daaLow a f = true ↔ flagH f = true ∨ 9 < a.toNat % 16 := by
  rw [daaLow, Bool.or_eq_true, decide_eq_true_iff, toNat_and_fifteen]

theorem daaHigh_iff : daaHigh a f = true ↔ flagC f = true ∨ 0x99 < a.toNat := by
  rw [daaHigh, Bool.or_eq_true, decide_eq_true_iff]

theorem toNat_daa8_add (hN : flagN f = false) :
    (daa8 a f).1.toNat = (a.toNat + (6 * (daaLow a f).toNat + 96 * (daaHigh a f).toNat)) % 256 := by
  simp only [daa8_eq, daaSum, hN, Bool.false_eq_true, if_false, add8_result, Bool.toNat_false,
    BitVec.add_zero, BitVec.toNat_add, toNat_daaCorr]

theorem toNat_daa8_sub (hN : flagN f = true) :
    (daa8 a f).1.toNat = (256 - (6 * (daaLow a f).toNat + 96 * (daaHigh a f).toNat) + a.toNat) % 256 := by
  simp only [daa8_eq, daaSum, hN, if_true, sub8_result, Bool.toNat_false,
    BitVec.sub_zero, BitVec.toNat_sub, toNat_daaCorr]

end

/-- A correction counted as 1 or 0. -/
theorem toNat_cases {b : Bool} {p : Prop} (h : b = true ↔ p) : (b.toNat = 1 ∧ p) ∨ (b.toNat = 0 ∧ ¬ p) := by
  cases b with
  | false => exact .inr ⟨rfl, fun hp => nomatch h.mpr hp⟩
  | true => exact .inl ⟨rfl, h.mp rfl⟩

section

variable {h1 l1 h2 l2 c a : Nat} {low high : Bool} (hh1 : h1 ≤ 9) (hl1 : l1 ≤ 9) (hh2 : h2 ≤ 9) (hl2 : l2 ≤ 9)
  (hc : c ≤ 1)
include hh1 hl1 hh2 hl2 hc

/-- The corrections after an addition are the decimal carries: the low digit's sum exceeds 9, the sum exceeds 99. -/
theorem decimal_add (ha : a = (16 * h1 + l1 + (16 * h2 + l2) + c) % 256)
    (hlow : low = true ↔ 16 ≤ l1 + l2 + c ∨ 9 < a % 16)
    (hhigh : high = true ↔ 256 ≤ 16 * h1 + l1 + (16 * h2 + l2) + c ∨ 0x99 < a) :
    (high = true ↔ 100 ≤ 10 * h1 + l1 + (10 * h2 + l2 + c)) ∧
      (a + (6 * low.toNat + 96 * high.toNat)) % 256 =
        (16 * ((10 * h1 + l1 + (10 * h2 + l2 + c)) / 10 % 10) + (10 * h1 + l1 + (10 * h2 + l2 + c)) % 10) % 256 := by
  have hlow' : low = true ↔ 9 < l1 + l2 + c := hlow.trans (by omega)
  have hhigh' : high = true ↔ 100 ≤ 10 * h1 + l1 + (10 * h2 + l2 + c) := hhigh.trans (by omega)
  have hcarryLow := toNat_cases hlow'
  have hcarryHigh := toNat_cases hhigh'
  exact ⟨hhigh', by omega⟩

/-- The corrections after a subtraction are the decimal borrows of the two digits. -/
theorem decimal_sub (ha : a = (256 + (16 * h1 + l1) - (16 * h2 + l2 + c)) % 256)
    (hlow : low = true ↔ l1 < l2 + c ∨ 9 < a % 16)
    (hhigh : high = true ↔ 16 * h1 + l1 < 16 * h2 + l2 + c ∨ 0x99 < a) :
    (high = true ↔ 10 * h1 + l1 < 10 * h2 + l2 + c) ∧
      (256 - (6 * low.toNat + 96 * high.toNat) + a) % 256 =
        (16 * ((10 * h1 + l1 + 100 - (10 * h2 + l2 + c)) / 10 % 10) + (10 * h1 + l1 + 100 - (10 * h2 + l2 + c)) % 10) %
          256 := by
  have hlow' : low = true ↔ l1 < l2 + c := hlow.trans (by omega)
  have hhigh' : high = true ↔ 10 * h1 + l1 < 10 * h2 + l2 + c := hhigh.trans (by omega)
  have hborrowLow := toNat_cases hlow'
  have hborrowHigh := toNat_cases hhigh'
  have htens : (10 * h1 + l1 + 100 - (10 * h2 + l2 + c)) / 10 = 10 + h1 - h2 - low.toNat := by omega
  have hunits : (10 * h1 + l1 + 100 - (10 * h2 + l2 + c)) % 10 = l1 + 10 * low.toNat - (l2 + c) := by omega
  have hbinary : a + 256 = 256 + (16 * h1 + l1) - (16 * h2 + l2 + c) + 256 * high.toNat := by omega
  have hdecimal : (10 + h1 - h2 - low.toNat) % 10 + 10 = 10 + h1 - h2 - low.toNat + 10 * high.toNat := by omega
  have hresult : 256 - (6 * low.toNat + 96 * high.toNat) + a =
      256 + (16 * ((10 + h1 - h2 - low.toNat) % 10) + (l1 + 10 * low.toNat - (l2 + c))) := by
    clear htens hunits
    omega
  rw [htens, hunits, hresult, Nat.add_mod_left]
  exact ⟨hhigh', rfl⟩

end

/-- Settles O44: the flags of the addition or subtraction are its binary carries, from which DAA finds the decimal
ones. -/
theorem decimalResult : Obligations.DecimalResult := by
  unfold Obligations.DecimalResult
  intro s h1 l1 h2 l2 hh1 hl1 hh2 hl2 cin x y bcd m n
  have hx : x.toNat = 16 * h1 + l1 := by simp [x]; omega
  have hy : y.toNat = 16 * h2 + l2 := by simp [y]; omega
  have hcin : cin.toNat ≤ 1 := Bool.toNat_le cin
  refine ⟨?add, ?sub⟩
  case add =>
    have harith := (addSubArithmetic.1 cin).1 x y
    obtain ⟨t, ht, hta, htf⟩ := exec_daa s (add8 x y cin)
    generalize add8 x y cin = rf at *
    obtain ⟨r, f⟩ := rf
    obtain ⟨hr, hC, hH, -, -, -, -, hN⟩ := harith
    have ha : r.toNat = (16 * h1 + l1 + (16 * h2 + l2) + cin.toNat) % 256 := by
      rw [hr, BitVec.toNat_add, BitVec.toNat_add, hx, hy, BitVec.toNat_ofNat]
      omega
    have hlow : daaLow r f = true ↔ 16 ≤ l1 + l2 + cin.toNat ∨ 9 < r.toNat % 16 := by
      rw [daaLow_iff, hH, hx, hy]
      omega
    have hhigh : daaHigh r f = true ↔ 256 ≤ 16 * h1 + l1 + (16 * h2 + l2) + cin.toNat ∨ 0x99 < r.toNat := by
      rw [daaHigh_iff, hC, hx, hy]
    obtain ⟨hcarry, hsum⟩ := decimal_add hh1 hl1 hh2 hl2 hcin ha hlow hhigh
    refine ⟨t, ht, BitVec.eq_of_toNat_eq ?_, ?_⟩
    · rw [hta, toNat_daa8_add hN, hsum]
      rfl
    · rw [htf, flagC_daa8]
      exact hcarry
  case sub =>
    have harith := (addSubArithmetic.1 cin).2.1 x y
    obtain ⟨t, ht, hta, htf⟩ := exec_daa s (sub8 x y cin)
    generalize sub8 x y cin = rf at *
    obtain ⟨r, f⟩ := rf
    obtain ⟨hr, hC, hH, -, -, -, -, hN⟩ := harith
    have ha : r.toNat = (256 + (16 * h1 + l1) - (16 * h2 + l2 + cin.toNat)) % 256 := by
      rw [hr, BitVec.toNat_sub, BitVec.toNat_sub, hx, hy, BitVec.toNat_ofNat]
      omega
    have hlow : daaLow r f = true ↔ l1 < l2 + cin.toNat ∨ 9 < r.toNat % 16 := by
      rw [daaLow_iff, hH, hx, hy]
      omega
    have hhigh : daaHigh r f = true ↔ 16 * h1 + l1 < 16 * h2 + l2 + cin.toNat ∨ 0x99 < r.toNat := by
      rw [daaHigh_iff, hC, hx, hy]
    obtain ⟨hborrow, hdiff⟩ := decimal_sub hh1 hl1 hh2 hl2 hcin ha hlow hhigh
    refine ⟨t, ht, BitVec.eq_of_toNat_eq ?_, ?_⟩
    · rw [hta, toNat_daa8_sub hN, hdiff]
      rfl
    · rw [htf, flagC_daa8]
      exact hborrow

end Sys2Proof.Machine
end

section
/-! SUPPORT. The input and output instructions in a quiet environment (49_input_output.md R341 to R355): what a port
answers is the environment's, and the state it leaves is that of `State.portAnswer`. -/

namespace Sys2Proof.Machine

/-! ## The ports -/

section

variable {t u : State} (h : SameRegs t u)
include h

theorem SameRegs.emit (o : BusOp) : SameRegs (t.emit o) u := h

/-- The answer to a port read looks at neither memory nor the record. -/
theorem SameRegs.portAnswer : t.portAnswer.1 = u.portAnswer.1 ∧ SameRegs t.portAnswer.2 u.portAnswer.2 := by
  have hp : t.portIn = u.portIn := by rw [h.eq_with]
  have hf : t.freeCount = u.freeCount := by rw [h.eq_with]
  obtain ⟨hv, hrest⟩ := State.portAnswer_congr hp hf
  rw [sameRegs_iff] at h ⊢
  exact ⟨hv, by simp [h, hrest]⟩

variable (hq : u.inside = [])
include hq

theorem SameRegs.portRead (p : Word) :
    (t.portRead p).1 = u.portAnswer.1 ∧ SameRegs (t.portRead p).2 u.portAnswer.2 := by
  obtain ⟨hv, hregs⟩ := h.portAnswer
  rw [State.portRead_quiet t p (h.inside_nil hq)]
  exact ⟨hv, (hregs.emit _).emit _⟩

theorem SameRegs.portWrite (p : Word) (v : Byte) : SameRegs (t.portWrite p v) u := by
  rw [State.portWrite_quiet t p v (h.inside_nil hq)]
  exact h

end

section

variable {s : State} (hq : s.inside = [])
include hq

theorem State.portRead_peek_quiet (p a : Word) : (s.portRead p).2.peek a = s.peek a := by
  rw [State.portRead_quiet s p hq]
  exact State.portAnswer_peek s a

theorem State.portWrite_peek_quiet (p a : Word) (v : Byte) : (s.portWrite p v).peek a = s.peek a := by
  rw [State.portWrite_quiet s p v hq]
  rfl

end

/-! ## Single input and output -/

section

variable {i : Instr} {s : State} {g : Byte → State → State} {p : Word} (hq : s.Quiet)
include hq

/-- An input, and then registers written. -/
theorem completes_portRead (hg : ∀ v, WritesRegs (g v))
    (h : exec i s = .next (g (s.portRead p).1 (s.portRead p).2)) :
    Completes i s (g s.portAnswer.1 s.portAnswer.2) s.peek [.portRead p s.portAnswer.1] := by
  have hs : SameRegs s s := rfl
  obtain ⟨hv, hregs⟩ := hs.portRead hq p
  rw [hv] at h
  exact completes_of_sameRegs (hg _) hregs (State.portRead_peek_quiet hq p) (s.portRead_bus p) h

/-- An output, and then WZ. -/
theorem completes_portWrite {v : Byte} {w : Word} (h : exec i s = .next ((s.portWrite p v).setWz w)) :
    Completes i s (s.setWz w) s.peek [.portWrite p v] := by
  have hs : SameRegs s s := rfl
  exact completes_of_sameRegs (g := (State.setWz · w)) (fun _ _ _ => rfl) (hs.portWrite hq p v)
    (fun a => State.portWrite_peek_quiet hq p a v) (s.portWrite_bus p v) h

end

theorem State.inC_eq (s : State) :
    s.inC = ((s.portRead s.bc).1,
      ((s.portRead s.bc).2.setWz (s.bc + 1#16)).setF (szpKeepC (s.portRead s.bc).1 s.f)) := by
  simp [State.inC]

/-- Settles O58: one port operation each; an input goes on from the state its answer leaves. -/
theorem inputOutput : Obligations.InputOutput := by
  unfold Obligations.InputOutput
  refine ⟨fun s => ⟨fun v rest h => s.portAnswer_ready h, s.portAnswer_free⟩, ?single⟩
  intro s hq v s' f
  have hset (r : Reg8) (v : Byte) : WritesRegs fun t => ((t.setWz (s.bc + 1#16)).setF (szpKeepC v s.f)).setR8 r v := by
    cases r <;> exact fun _ _ _ => rfl
  refine ⟨fun n => ⟨reads_main rfl (by decide) fun _ => rfl, ?inAN⟩, fun r => ⟨reads_inRC r, ?inRC⟩,
    ⟨reads_ed rfl fun _ => rfl, ?inFC⟩,
    fun n => ⟨reads_main rfl (by decide) fun _ => rfl, completes_portWrite hq rfl⟩,
    fun r => ⟨reads_outCR r, completes_portWrite hq rfl⟩,
    ⟨reads_ed rfl fun _ => rfl, completes_portWrite hq rfl⟩⟩
  case inAN =>
    exact completes_portRead (g := fun v t => (t.setA v).setWz (join16 s.a n + 1#16)) hq (fun _ _ _ _ => rfl) rfl
  case inRC =>
    refine completes_portRead (g := fun v t => ((t.setWz (s.bc + 1#16)).setF (szpKeepC v s.f)).setR8 r v) hq
      (hset r) ?_
    show execInRC r s = _
    rw [execInRC, State.inC_eq]
  case inFC =>
    refine completes_portRead (g := fun v t => (t.setWz (s.bc + 1#16)).setF (szpKeepC v s.f)) hq
      (fun _ _ _ _ => rfl) ?_
    show execInFC s = _
    rw [execInFC, State.inC_eq]

/-! ## Block input and output -/

theorem Dir.step16_up : Dir.up.step16 = 1#16 := rfl
theorem Dir.step16_down : Dir.down.step16 = 0#16 - 1#16 := rfl
theorem Dir.step8_up : Dir.up.step8 = 1#8 := rfl
theorem Dir.step8_down : Dir.down.step8 = 0#8 - 1#8 := rfl

/-- The flag formula as the statements write it. -/
theorem ioBlockF_eq (t : Byte) (k : Nat) (b : Byte) : ioBlockF t k b = blockPortFlags t k b := by
  have hmod : BitVec.ofNat 8 (k % 8) = BitVec.ofNat 8 k &&& 0x07#8 := by
    apply BitVec.eq_of_toNat_eq
    rw [BitVec.toNat_and, BitVec.toNat_ofNat, BitVec.toNat_ofNat]
    have hlow : k % 2 ^ 8 &&& 7 = k % 2 ^ 8 % 8 := Nat.and_two_pow_sub_one_eq_mod _ 3
    exact Eq.trans (by omega) hlow.symm
  have hz : bitAt 6 (b == 0#8) = if b = 0#8 then 0x40#8 else 0x00#8 := by simp [bitAt]
  rw [ioBlockF, hmod, sz53, hz]
  rfl

theorem State.inRegs_eq_afterIn (s : State) (dir : Dir) (t : Byte) :
    s.inRegs dir t = s.afterIn t dir.step16 dir.step8 := by
  rw [State.inRegs, ioBlockF_eq]
  rfl

theorem State.afterIn_inside (s : State) (t : Byte) (k : Word) (k8 : Byte) : (s.afterIn t k k8).inside = s.inside := rfl

theorem State.afterIn_b (s : State) (t : Byte) (k : Word) (k8 : Byte) : (s.afterIn t k k8).b = s.b - 1#8 := rfl

theorem State.afterOut_inside (s : State) (k : Word) : (s.afterOut k).inside = s.inside := rfl

theorem State.afterOut_b (s : State) (k : Word) : (s.afterOut k).b = s.b - 1#8 := rfl

theorem State.outRegs_eq_afterOut (s : State) (dir : Dir) :
    (s.setB (s.b - 1#8)).outRegs dir (s.peek s.hl) = s.afterOut dir.step16 := by
  rw [State.outRegs, ioBlockF_eq]
  rfl

section

variable {s : State} (dir : Dir) (hq : s.Quiet)
include hq

theorem yields_blockIn (hc : s.Canonical) :
    Yields (State.blockIn · dir) s (s.portAnswer.2.afterIn s.portAnswer.1 dir.step16 dir.step8)
      (s.poked s.hl s.portAnswer.1) [.portRead s.bc s.portAnswer.1, .memWrite s.hl s.portAnswer.1] := by
  have hs : SameRegs s s := rfl
  have hq' : s.portAnswer.2.inside = [] := (State.portAnswer_inside s).trans hq
  have htick : (s.tick 1).inside = [] := (hs.tick hq 1).inside_nil hq
  obtain ⟨hv, hread⟩ := (hs.tick hq 1).portRead hq s.bc
  have hcanonical := State.portRead_canonical _ s.bc (State.tick_canonical s 1 hc)
  have hpeek (a : Word) : ((s.tick 1).portRead s.bc).2.peek a = s.peek a := by
    rw [State.portRead_peek_quiet htick, State.tick_quiet s 1 hq]
    rfl
  have hbus : ((s.tick 1).portRead s.bc).2.bus = .portRead s.bc s.portAnswer.1 :: s.bus := by
    rw [State.portRead_bus, (hs.tick hq 1).portAnswer.1, State.bus_tick]
  rw [← State.inRegs_eq_afterIn]
  refine yields_of_sameRegs (g := (State.inRegs · dir s.portAnswer.1)) (fun _ _ _ => rfl)
    (hread.memWrite hq' s.hl s.portAnswer.1) (fun a => ?mem) ?bus (by rw [State.blockIn_eq, hv])
  case mem =>
    rw [State.memWrite_peek _ _ _ (hread.inside_nil hq') hcanonical, State.poked, State.poked, hpeek]
  case bus => rw [State.memWrite_bus, hbus]; rfl

theorem yields_blockOut :
    Yields (State.blockOut · dir) s (s.afterOut dir.step16) s.peek
      [.memRead s.hl (s.peek s.hl), .portWrite (join16 (s.b - 1#8) s.c) (s.peek s.hl)] := by
  have hs : SameRegs s s := rfl
  have htick : (s.tick 1).inside = [] := (hs.tick hq 1).inside_nil hq
  have hv : ((s.tick 1).memRead s.hl).1 = s.peek s.hl := by
    rw [State.memRead_fst_quiet _ s.hl htick, State.tick_quiet s 1 hq]
    rfl
  have hread : SameRegs (((s.tick 1).memRead s.hl).2.setB (s.b - 1#8)) (s.setB (s.b - 1#8)) :=
    ((hs.tick hq 1).memRead hq s.hl).writesRegs (g := (State.setB · _)) fun _ _ _ => rfl
  rw [← State.outRegs_eq_afterOut]
  refine yields_of_sameRegs (g := (State.outRegs · dir (s.peek s.hl))) (fun _ _ _ => rfl)
    (hread.portWrite hq (join16 (s.b - 1#8) s.c) (s.peek s.hl)) (fun a => ?mem) ?bus (by rw [State.blockOut_eq, hv])
  case mem =>
    rw [State.portWrite_peek_quiet (hread.inside_nil hq), State.memRead_quiet _ s.hl htick, State.tick_quiet s 1 hq]
    rfl
  case bus =>
    rw [State.portWrite_bus]
    show _ :: ((s.tick 1).memRead s.hl).2.bus = _
    rw [State.memRead_bus, hv, State.bus_tick]
    rfl

end

/-- PC back over the two bytes of the instruction. -/
def State.backTwo (u : State) : State := { u with pc := u.pc - 2#16 }

/-- A block input or output that goes back while the new B is not zero (R349). -/
theorem Yields.completes_repeatWhileB {i : Instr} {s u : State} {g : State → State} {m : Word → Byte} {ops : List BusOp}
    (hg : Yields g s u m ops) (hq : u.inside = []) (hb : u.b = s.b - 1#8)
    (h : exec i s = .next (g s).repeatWhileB) :
    Completes i s (if s.b - 1#8 ≠ 0#8 then { u with pc := u.pc - 2#16 } else u) m ops := by
  have hb' : (g s).b = s.b - 1#8 := (hg.reads (r := State.b) fun _ _ _ => rfl).trans hb
  have hback : (g s).repeatBlock = ((g s).tick 5).backTwo := State.repeatBlock_eq (g s)
  rw [State.repeatWhileB, hb', hback] at h
  exact hg.completes_again hq (h := State.backTwo) (fun _ _ _ => rfl) h (bne_eq_decide_ne _ _)

/-- Settles O59: one iteration of each, and for the repeating forms PC back while the new B is not zero. -/
theorem blockInputOutput : Obligations.BlockInputOutput := by
  unfold Obligations.BlockInputOutput
  refine ⟨fun s hq hc => ?input, fun s hq => ?output⟩
  case input =>
    have hup := yields_blockIn .up hq hc
    have hdown := yields_blockIn .down hq hc
    rw [Dir.step16_up, Dir.step8_up] at hup
    rw [Dir.step16_down, Dir.step8_down] at hdown
    have hinside (k : Word) (k8 : Byte) : (s.portAnswer.2.afterIn s.portAnswer.1 k k8).inside = [] := by
      rw [State.afterIn_inside, State.portAnswer_inside, hq]
    have hb (k : Word) (k8 : Byte) : (s.portAnswer.2.afterIn s.portAnswer.1 k k8).b = s.b - 1#8 := by
      rw [State.afterIn_b, State.portAnswer_b]
    exact ⟨⟨reads_ed rfl fun _ => rfl, hup.completes rfl⟩, ⟨reads_ed rfl fun _ => rfl, hdown.completes rfl⟩,
      ⟨reads_ed rfl fun _ => rfl, hup.completes_repeatWhileB (hinside _ _) (hb _ _) rfl⟩,
      ⟨reads_ed rfl fun _ => rfl, hdown.completes_repeatWhileB (hinside _ _) (hb _ _) rfl⟩⟩
  case output =>
    have hup := yields_blockOut .up hq
    have hdown := yields_blockOut .down hq
    rw [Dir.step16_up] at hup
    rw [Dir.step16_down] at hdown
    have hinside (k : Word) : (s.afterOut k).inside = [] := (s.afterOut_inside k).trans hq
    exact ⟨⟨reads_ed rfl fun _ => rfl, hup.completes rfl⟩, ⟨reads_ed rfl fun _ => rfl, hdown.completes rfl⟩,
      ⟨reads_ed rfl fun _ => rfl, hup.completes_repeatWhileB (hinside _) (s.afterOut_b _) rfl⟩,
      ⟨reads_ed rfl fun _ => rfl, hdown.completes_repeatWhileB (hinside _) (s.afterOut_b _) rfl⟩⟩

end Sys2Proof.Machine
end
